-- ==== Sys2Proof/Word.lean ====
section
/-! DEFINITION. The words of the BMC Frame Decoder Core: the widths the spec names, and nothing else. -/

namespace Sys2Proof

/-- A sample index, unsigned, 64 bits (20_memory.md R35: the block never wraps it). -/
abbrev Sample := BitVec 64

/-- A register of the configuration port, 64 bits (10_state.md R14). -/
abbrev Reg := BitVec 64

/-- A 5-bit code group; bit 0 is the bit received first (30_encoding.md R49). -/
abbrev Code := BitVec 5

/-- A 20-bit frame-start candidate: four code groups, the first received in bits 4 to 0
(30_encoding.md R51). -/
abbrev Candidate := BitVec 20

/-- A data word or a checksum, 32 bits (44_frame_parser.md R98, R99). -/
abbrev Word32 := BitVec 32

/-- A header, 16 bits (30_encoding.md R52). -/
abbrev Header16 := BitVec 16

/-- A byte of the checksum's input or of a raw dump (45_checksum.md R103, 46_window_output.md R121). -/
abbrev Byte := BitVec 8

end Sys2Proof
end

