-- ==== Sys2Proof/Config.lean ====
section
/-! DEFINITION. What one build of the hardware fixes (00_scope.md R6, 92_eei_decisions.md "Open
parameters"): the types of the build-time parameters. Their default values stand in
Machine/Tables.lean. Beside them the
model's free values. -/

namespace Sys2Proof

/-- A symbol (30_encoding.md R50): a data nibble, one of the control markers, or the ERROR sentinel. -/
inductive Sym where
  /-- a data nibble, codes 0x00 to 0x0F -/
  | data (nib : BitVec 4)
  /-- the ERROR sentinel, code 0x10 -/
  | error
  /-- SYNC-1, code 0x11 -/
  | sync1
  /-- SYNC-2, code 0x12 -/
  | sync2
  /-- SYNC-3, code 0x13 -/
  | sync3
  /-- RST-1, code 0x14 -/
  | rst1
  /-- RST-2, code 0x15 -/
  | rst2
  /-- END-OF-PACKET, code 0x16 -/
  | eop
deriving DecidableEq, Repr

/-- The class of a frame-start row (43_frame_sync.md R84). -/
inductive SopClass where
  | ordinary
  | extended
  | reset
deriving DecidableEq, Repr

/-- A row of SOP_TABLE (43_frame_sync.md R84): four symbols, first received first, and the kind
code of 30_encoding.md R57. -/
structure SopRow where
  sym0 : Sym
  sym1 : Sym
  sym2 : Sym
  sym3 : Sym
  kind : BitVec 3
deriving DecidableEq, Repr

/-- CRC_ALGO, "a function from a byte string to 32 bits" (92_eei_decisions.md "Open parameters"), named by
plain data. Log entry 4. -/
inductive CrcAlgo where
  /-- the bit-serial, reflected CRC of 45_checksum.md R104, by its polynomial, initial value and final XOR -/
  | reflected (poly init xorOut : Word32)
  /-- any other function: the one that `Config.otherChecksum` gives this number -/
  | other (id : Nat)
deriving DecidableEq, Repr

/-- The build-time parameters of one instance of the hardware (00_scope.md R6). They are ROM, not
architectural state (10_state.md R13); no step changes them (20_memory.md R44). Log entry 4. -/
structure Build where
  /-- BIT_CAPACITY: `none` is unbounded, the default (20_memory.md R45). -/
  bitCapacity : Option Nat
  /-- CODE_TABLE: the symbol of code c at position c, 32 entries (42_symbol_mapper.md R81). -/
  codeTable : List Sym
  /-- SOP_TABLE, in table order (43_frame_sync.md R84). -/
  sopTable : List SopRow
  /-- SENTINEL16 (44_frame_parser.md R95). -/
  sentinel16 : Header16
  /-- SENTINEL32 (44_frame_parser.md R95). -/
  sentinel32 : Word32
  /-- CRC_ALGO (45_checksum.md R104; log entry 4). -/
  crcAlgo : CrcAlgo
deriving DecidableEq, Repr

/-- FREE VALUE, DESIGN CHOICE, safe (log entry 4): the checksum functions that are no reflected CRC, which
00_scope.md R6 lets a build have. Nothing constrains any of them. -/
opaque Config.otherChecksum : Nat → List Byte → Word32

/-- FREE VALUE, DESIGN CHOICE, safe (log entry 11): the bit rate reported for a window whose edge
span is 0. 46_window_output.md R120 derives that no frame path has such a window and states no value;
nothing constrains this one. Its arguments are SAMPLE_RATE and the window's bit count. -/
opaque Config.bitrateOfEmptySpan : Reg → Nat → BitVec 64

end Sys2Proof
end

