-- ==== Sys2Proof/Syntax.lean ====
section
/-! DEFINITION. The instructions: one constructor per row of spec/opcode_table.json, the words the
hardware's ports carry, and what the host can present. -/

namespace Sys2Proof

/-- One constructor per row of spec/opcode_table.json. The events and accesses are the block's steps
(00_scope.md R11); the CODE and SOPK rows are entries of its two ROMs, run as instructions of their
own as log entry 1 says. -/
inductive Instr where
  /-- EDGE T L, an edge record (40_input_events.md R62) -/
  | edge (t : Sample) (l : Bool)
  /-- TICK T, the sample index T has been reached with no edge; L is ignored (40_input_events.md R63) -/
  | tick (t : Sample)
  /-- EOS, end of stream; T and L are ignored (40_input_events.md R64) -/
  | eos
  /-- the reserved event kind; T and L are ignored (40_input_events.md R65) -/
  | rsvd
  /-- CFGW addr value, a configuration write (40_input_events.md R60) -/
  | cfgw (addr : Reg) (value : Reg)
  /-- CFGR addr, a configuration read; wdata is ignored (40_input_events.md R61) -/
  | cfgr (addr : Reg)
  /-- CODE_TABLE row 0x00, sym 0x10 (42_symbol_mapper.md R81) -/
  | code00Error
  /-- CODE_TABLE row 0x01, sym 0x10 (42_symbol_mapper.md R81) -/
  | code01Error
  /-- CODE_TABLE row 0x02, sym 0x10 (42_symbol_mapper.md R81) -/
  | code02Error
  /-- CODE_TABLE row 0x03, sym 0x10 (42_symbol_mapper.md R81) -/
  | code03Error
  /-- CODE_TABLE row 0x04, sym 0x10 (42_symbol_mapper.md R81) -/
  | code04Error
  /-- CODE_TABLE row 0x05, sym 0x10 (42_symbol_mapper.md R81) -/
  | code05Error
  /-- CODE_TABLE row 0x06, sym 0x13 (42_symbol_mapper.md R81) -/
  | code06Sync3
  /-- CODE_TABLE row 0x07, sym 0x14 (42_symbol_mapper.md R81) -/
  | code07Rst1
  /-- CODE_TABLE row 0x08, sym 0x10 (42_symbol_mapper.md R81) -/
  | code08Error
  /-- CODE_TABLE row 0x09, sym 0x01 (42_symbol_mapper.md R81) -/
  | code09Data1
  /-- CODE_TABLE row 0x0A, sym 0x04 (42_symbol_mapper.md R81) -/
  | code0AData4
  /-- CODE_TABLE row 0x0B, sym 0x05 (42_symbol_mapper.md R81) -/
  | code0BData5
  /-- CODE_TABLE row 0x0C, sym 0x10 (42_symbol_mapper.md R81) -/
  | code0CError
  /-- CODE_TABLE row 0x0D, sym 0x16 (42_symbol_mapper.md R81) -/
  | code0DEop
  /-- CODE_TABLE row 0x0E, sym 0x06 (42_symbol_mapper.md R81) -/
  | code0EData6
  /-- CODE_TABLE row 0x0F, sym 0x07 (42_symbol_mapper.md R81) -/
  | code0FData7
  /-- CODE_TABLE row 0x10, sym 0x10 (42_symbol_mapper.md R81) -/
  | code10Error
  /-- CODE_TABLE row 0x11, sym 0x12 (42_symbol_mapper.md R81) -/
  | code11Sync2
  /-- CODE_TABLE row 0x12, sym 0x08 (42_symbol_mapper.md R81) -/
  | code12Data8
  /-- CODE_TABLE row 0x13, sym 0x09 (42_symbol_mapper.md R81) -/
  | code13Data9
  /-- CODE_TABLE row 0x14, sym 0x02 (42_symbol_mapper.md R81) -/
  | code14Data2
  /-- CODE_TABLE row 0x15, sym 0x03 (42_symbol_mapper.md R81) -/
  | code15Data3
  /-- CODE_TABLE row 0x16, sym 0x0A (42_symbol_mapper.md R81) -/
  | code16DataA
  /-- CODE_TABLE row 0x17, sym 0x0B (42_symbol_mapper.md R81) -/
  | code17DataB
  /-- CODE_TABLE row 0x18, sym 0x11 (42_symbol_mapper.md R81) -/
  | code18Sync1
  /-- CODE_TABLE row 0x19, sym 0x15 (42_symbol_mapper.md R81) -/
  | code19Rst2
  /-- CODE_TABLE row 0x1A, sym 0x0C (42_symbol_mapper.md R81) -/
  | code1ADataC
  /-- CODE_TABLE row 0x1B, sym 0x0D (42_symbol_mapper.md R81) -/
  | code1BDataD
  /-- CODE_TABLE row 0x1C, sym 0x0E (42_symbol_mapper.md R81) -/
  | code1CDataE
  /-- CODE_TABLE row 0x1D, sym 0x0F (42_symbol_mapper.md R81) -/
  | code1DDataF
  /-- CODE_TABLE row 0x1E, sym 0x00 (42_symbol_mapper.md R81) -/
  | code1EData0
  /-- CODE_TABLE row 0x1F, sym 0x10 (42_symbol_mapper.md R81) -/
  | code1FError
  /-- SOP_TABLE row 0, candidate 0x8E318 (43_frame_sync.md R84) -/
  | sopk0Sop
  /-- SOP_TABLE row 1, candidate 0x31B18 (43_frame_sync.md R84) -/
  | sopk1Sop1
  /-- SOP_TABLE row 2, candidate 0x360D8 (43_frame_sync.md R84) -/
  | sopk2Sop2
  /-- SOP_TABLE row 3, candidate 0x36738 (43_frame_sync.md R84) -/
  | sopk3Sop1Debug
  /-- SOP_TABLE row 4, candidate 0x89B38 (43_frame_sync.md R84) -/
  | sopk4Sop2Debug
  /-- SOP_TABLE row 5, candidate 0x31F07 (43_frame_sync.md R84) -/
  | sopk5CableReset
  /-- SOP_TABLE row 6, candidate 0xC9CE7 (43_frame_sync.md R84) -/
  | sopk6HardReset
deriving DecidableEq, Repr

/-- A word as one of the hardware's ports carries it. -/
inductive PortWord where
  /-- one 67-bit event word of the input port (30_encoding.md R46) -/
  | event (w : BitVec 67)
  /-- one access of the configuration port, its three fields side by side (30_encoding.md R48) -/
  | access (op : BitVec 1) (addr : Reg) (wdata : Reg)
  /-- a code group presented to the symbol mapper; no host can send one (log entry 1) -/
  | codeGroup (c : Code)
  /-- a 20-bit candidate presented to the synchronizer; no host can send one (log entry 1) -/
  | candidate (p : Candidate)
deriving DecidableEq, Repr

/-- What the outside world presents to the block, one element a step (log entry 2): a word at a port,
or the reset input asserted between two instructions (70_reset_and_hazards.md R148). -/
inductive Input where
  | word (w : PortWord)
  | reset
deriving DecidableEq, Repr

end Sys2Proof
end

