-- ==== Sys2Proof/WellFormed.lean ====
section
/-! DEFINITION. Which terms stand for something the hardware has. -/

namespace Sys2Proof

/-- Every instruction term is well formed: each operand fills its field exactly, and every value of
each field is legal ("Every 67-bit word decodes to exactly one row", 30_encoding.md R47; register
addresses of 64 bits are all accepted, 10_state.md R21). One arm per constructor, so that an
instruction with a bounded operand could not slip past. -/
def Instr.wf : Instr → Bool
  | .edge _ _ | .tick _ | .eos | .rsvd | .cfgw _ _ | .cfgr _ => true
  | .code00Error | .code01Error | .code02Error | .code03Error => true
  | .code04Error | .code05Error | .code06Sync3 | .code07Rst1 => true
  | .code08Error | .code09Data1 | .code0AData4 | .code0BData5 => true
  | .code0CError | .code0DEop | .code0EData6 | .code0FData7 => true
  | .code10Error | .code11Sync2 | .code12Data8 | .code13Data9 => true
  | .code14Data2 | .code15Data3 | .code16DataA | .code17DataB => true
  | .code18Sync1 | .code19Rst2 | .code1ADataC | .code1BDataD => true
  | .code1CDataE | .code1DDataF | .code1EData0 | .code1FError => true
  | .sopk0Sop | .sopk1Sop1 | .sopk2Sop2 | .sopk3Sop1Debug => true
  | .sopk4Sop2Debug | .sopk5CableReset | .sopk6HardReset => true

/-- A row of SOP_TABLE uses a kind that 30_encoding.md R57 names. -/
def SopRow.kindNamed (r : SopRow) : Bool := decide (r.kind ≤ 6#3)

/-- No position of a row of SOP_TABLE holds ERROR (43_frame_sync.md R85: "no row contains ERROR"). -/
def SopRow.errorFree (r : SopRow) : Bool :=
  decide (r.sym0 ≠ .error) && decide (r.sym1 ≠ .error) && decide (r.sym2 ≠ .error) && decide (r.sym3 ≠ .error)

/-- A build meets the constraints of 92_eei_decisions.md "Open parameters": CODE_TABLE is a total map
from the 32 codes, and the rows of SOP_TABLE are kinds of 30_encoding.md R57 without ERROR. -/
def Build.wf (b : Build) : Bool :=
  decide (b.codeTable.length = 32) && b.sopTable.all SopRow.kindNamed && b.sopTable.all SopRow.errorFree

end Sys2Proof
end

