-- ==== Sys2Proof/Decode.lean ====
section
/-! DEFINITION. The decoder, total on every word of every port, and the encoder. Both are written from
30_encoding.md R46 to R48, 42_symbol_mapper.md R81 and 43_frame_sync.md R84 (spec/opcode_table.json is
their machine-readable copy). -/

namespace Sys2Proof

/-- Why the decoder rejects a word. Every word of the input port and of the configuration port decodes
(30_encoding.md R47, R48), and every code group has its row (42_symbol_mapper.md R83). -/
inductive DecodeError where
  /-- the code group has no CODE row in the opcode table; none is missing, so no word raises this -/
  | noCodeRow (c : Code)
  /-- the 20-bit word is the exact pattern of no SOPK row of the opcode table -/
  | notAFrameStart (p : Candidate)
deriving DecidableEq, Repr

/-- The kind field `K` = bits [66:65] of an event word (30_encoding.md R46). -/
def eventKind (w : BitVec 67) : BitVec 2 := w.extractLsb' 65 2

/-- The level field `L` = bit [64] (30_encoding.md R46). -/
def eventLevel (w : BitVec 67) : Bool := w.getLsbD 64

/-- The sample index `T` = bits [63:0] (30_encoding.md R46). -/
def eventTime (w : BitVec 67) : Sample := w.extractLsb' 0 64

/-- An event word decodes from `K` alone (30_encoding.md R47). -/
def decodeEvent (w : BitVec 67) : Instr :=
  if eventKind w = 0b00#2 then .edge (eventTime w) (eventLevel w)
  else if eventKind w = 0b01#2 then .tick (eventTime w)
  else if eventKind w = 0b10#2 then .eos
  else .rsvd

/-- A configuration access: op 1 is CFGW, op 0 is CFGR (30_encoding.md R48). -/
def decodeAccess (op : BitVec 1) (addr wdata : Reg) : Instr :=
  if op = 1#1 then .cfgw addr wdata else .cfgr addr

/-- The CODE rows of the opcode table: code and instruction (42_symbol_mapper.md R81). -/
def codeRows : List (Code × Instr) :=
  [(0x00#5, .code00Error), (0x01#5, .code01Error), (0x02#5, .code02Error),
   (0x03#5, .code03Error), (0x04#5, .code04Error), (0x05#5, .code05Error),
   (0x06#5, .code06Sync3), (0x07#5, .code07Rst1)] ++
  [(0x08#5, .code08Error), (0x09#5, .code09Data1), (0x0A#5, .code0AData4),
   (0x0B#5, .code0BData5), (0x0C#5, .code0CError), (0x0D#5, .code0DEop),
   (0x0E#5, .code0EData6), (0x0F#5, .code0FData7)] ++
  [(0x10#5, .code10Error), (0x11#5, .code11Sync2), (0x12#5, .code12Data8),
   (0x13#5, .code13Data9), (0x14#5, .code14Data2), (0x15#5, .code15Data3),
   (0x16#5, .code16DataA), (0x17#5, .code17DataB)] ++
  [(0x18#5, .code18Sync1), (0x19#5, .code19Rst2), (0x1A#5, .code1ADataC),
   (0x1B#5, .code1BDataD), (0x1C#5, .code1CDataE), (0x1D#5, .code1DDataF),
   (0x1E#5, .code1EData0), (0x1F#5, .code1FError)]

/-- The SOPK rows of the opcode table: 20-bit pattern and instruction (43_frame_sync.md R84). -/
def sopRows : List (Candidate × Instr) :=
  [(0x8E318#20, .sopk0Sop),
   (0x31B18#20, .sopk1Sop1),
   (0x360D8#20, .sopk2Sop2),
   (0x36738#20, .sopk3Sop1Debug),
   (0x89B38#20, .sopk4Sop2Debug),
   (0x31F07#20, .sopk5CableReset),
   (0xC9CE7#20, .sopk6HardReset)]

/-- The instruction a table gives a word, if it has a row with exactly that word. -/
def rowOf {n : Nat} (rows : List (BitVec n × Instr)) (w : BitVec n) : Option Instr :=
  (rows.find? fun r => r.1 == w).map Prod.snd

/-- The decoder: total on every word of every port, rejecting by name. -/
def decode : PortWord → Except DecodeError Instr
  | .event w => .ok (decodeEvent w)
  | .access op addr wdata => .ok (decodeAccess op addr wdata)
  | .codeGroup c =>
    match rowOf codeRows c with
    | some i => .ok i
    | none => .error (.noCodeRow c)
  | .candidate p =>
    match rowOf sopRows p with
    | some i => .ok i
    | none => .error (.notAFrameStart p)

/-- An event word from its three fields `K`, `L`, `T` (30_encoding.md R46). -/
def eventWord (k : BitVec 2) (l : Bool) (t : Sample) : BitVec 67 :=
  k ++ BitVec.ofBool l ++ t

/-- The encoder: the word of each instruction. Fields the hardware ignores are written as 0
(log entry 12). -/
def encode : Instr → PortWord
  | .edge t l => .event (eventWord 0b00#2 l t)
  | .tick t => .event (eventWord 0b01#2 false t)
  | .eos => .event (eventWord 0b10#2 false 0#64)
  | .rsvd => .event (eventWord 0b11#2 false 0#64)
  | .cfgw addr value => .access 1#1 addr value
  | .cfgr addr => .access 0#1 addr 0#64
  | .code00Error => .codeGroup 0x00#5
  | .code01Error => .codeGroup 0x01#5
  | .code02Error => .codeGroup 0x02#5
  | .code03Error => .codeGroup 0x03#5
  | .code04Error => .codeGroup 0x04#5
  | .code05Error => .codeGroup 0x05#5
  | .code06Sync3 => .codeGroup 0x06#5
  | .code07Rst1 => .codeGroup 0x07#5
  | .code08Error => .codeGroup 0x08#5
  | .code09Data1 => .codeGroup 0x09#5
  | .code0AData4 => .codeGroup 0x0A#5
  | .code0BData5 => .codeGroup 0x0B#5
  | .code0CError => .codeGroup 0x0C#5
  | .code0DEop => .codeGroup 0x0D#5
  | .code0EData6 => .codeGroup 0x0E#5
  | .code0FData7 => .codeGroup 0x0F#5
  | .code10Error => .codeGroup 0x10#5
  | .code11Sync2 => .codeGroup 0x11#5
  | .code12Data8 => .codeGroup 0x12#5
  | .code13Data9 => .codeGroup 0x13#5
  | .code14Data2 => .codeGroup 0x14#5
  | .code15Data3 => .codeGroup 0x15#5
  | .code16DataA => .codeGroup 0x16#5
  | .code17DataB => .codeGroup 0x17#5
  | .code18Sync1 => .codeGroup 0x18#5
  | .code19Rst2 => .codeGroup 0x19#5
  | .code1ADataC => .codeGroup 0x1A#5
  | .code1BDataD => .codeGroup 0x1B#5
  | .code1CDataE => .codeGroup 0x1C#5
  | .code1DDataF => .codeGroup 0x1D#5
  | .code1EData0 => .codeGroup 0x1E#5
  | .code1FError => .codeGroup 0x1F#5
  | .sopk0Sop => .candidate 0x8E318#20
  | .sopk1Sop1 => .candidate 0x31B18#20
  | .sopk2Sop2 => .candidate 0x360D8#20
  | .sopk3Sop1Debug => .candidate 0x36738#20
  | .sopk4Sop2Debug => .candidate 0x89B38#20
  | .sopk5CableReset => .candidate 0x31F07#20
  | .sopk6HardReset => .candidate 0xC9CE7#20

/-- A port word with the fields its instruction ignores written as 0: `L` of a TICK, `L` and `T` of EOS and
of the reserved kind (30_encoding.md R47), `wdata` of a read (40_input_events.md R61). -/
def ignoredFieldsCleared : PortWord → PortWord
  | .event w =>
    if eventKind w = 0b00#2 then .event w
    else if eventKind w = 0b01#2 then .event (eventWord 0b01#2 false (eventTime w))
    else .event (eventWord (eventKind w) false 0#64)
  | .access op addr wdata => if op = 1#1 then .access op addr wdata else .access op addr 0#64
  | .codeGroup c => .codeGroup c
  | .candidate p => .candidate p

/-- The port word that a row of spec/opcode_table.json with `nbits` bits (in whole bytes) stands for,
its bits numbered as the table numbers them: a 5-bit code, a 20-bit candidate, a 67-bit event word, or
the 129-bit pattern op || addr || wdata of a configuration access. Bits beyond the port's width have no
wire and are dropped. -/
def portWordOfTable (nbits w : Nat) : PortWord :=
  if nbits ≤ 8 then .codeGroup (BitVec.ofNat 5 w)
  else if nbits ≤ 32 then .candidate (BitVec.ofNat 20 w)
  else if nbits ≤ 128 then .event (BitVec.ofNat 67 w)
  else .access (BitVec.ofNat 1 (w / 2 ^ 128)) (BitVec.ofNat 64 (w / 2 ^ 64)) (BitVec.ofNat 64 w)

/-- The instruction the decoder reads from a word of the opcode table. -/
def decodeTableWord (nbits w : Nat) : Option Instr :=
  match decode (portWordOfTable nbits w) with
  | .ok i => some i
  | .error _ => none

end Sys2Proof
end

