-- ==== Sys2Proof/Machine/Tables.lean ====
section
/-! DEFINITION. The contents of the two ROMs and the other build-time parameters at the defaults of
00_scope.md R6, and the numeric codes of symbols. -/

namespace Sys2Proof.Machine

/-- The 5-bit symbol code of a symbol (30_encoding.md R50). -/
def symCode : Sym → BitVec 5
  | .data nib => nib.setWidth 5
  | .error => 0x10#5
  | .sync1 => 0x11#5
  | .sync2 => 0x12#5
  | .sync3 => 0x13#5
  | .rst1 => 0x14#5
  | .rst2 => 0x15#5
  | .eop => 0x16#5

/-- Is the symbol data (42_symbol_mapper.md R82: `sym < 0x10`)? -/
def symIsData : Sym → Bool
  | .data _ => true
  | _ => false

/-- The nibble a symbol contributes to a group: a data symbol its own, any other 0
(42_symbol_mapper.md R82, 44_frame_parser.md R102). -/
def symNibble : Sym → BitVec 4
  | .data nib => nib
  | _ => 0#4

/-- The default CODE_TABLE (42_symbol_mapper.md R81), entry c at position c. -/
def defaultCodeTable : List Sym :=
  [.error, .error, .error, .error, .error, .error, .sync3, .rst1,
   .error, .data 0x1, .data 0x4, .data 0x5, .error, .eop, .data 0x6, .data 0x7,
   .error, .sync2, .data 0x8, .data 0x9, .data 0x2, .data 0x3, .data 0xA, .data 0xB,
   .sync1, .rst2, .data 0xC, .data 0xD, .data 0xE, .data 0xF, .data 0x0, .error]

/-- The default SOP_TABLE (43_frame_sync.md R84), in table order. -/
def defaultSopTable : List SopRow :=
  [⟨.sync1, .sync1, .sync1, .sync2, 0#3⟩,
   ⟨.sync1, .sync1, .sync3, .sync3, 1#3⟩,
   ⟨.sync1, .sync3, .sync1, .sync3, 2#3⟩,
   ⟨.sync1, .rst2, .rst2, .sync3, 3#3⟩,
   ⟨.sync1, .rst2, .sync3, .sync2, 4#3⟩,
   ⟨.rst1, .sync1, .rst1, .sync3, 5#3⟩,
   ⟨.rst1, .rst1, .rst1, .rst2, 6#3⟩]

/-- The class of a kind (43_frame_sync.md R84; 92_eei_decisions.md: "kinds 5 and 6 are the reset kinds"). -/
def sopClass (kind : BitVec 3) : SopClass :=
  if kind = 0#3 then .ordinary else if kind = 5#3 ∨ kind = 6#3 then .reset else .extended

/-- The default CRC_ALGO (45_checksum.md R104). -/
def defaultCrc : CrcAlgo := .reflected 0xEDB88320#32 0xFFFFFFFF#32 0xFFFFFFFF#32

/-- The build whose parameters are the defaults of 00_scope.md R6. -/
def defaultBuild : Build where
  bitCapacity := none
  codeTable := defaultCodeTable
  sopTable := defaultSopTable
  sentinel16 := 0x0BAD#16
  sentinel32 := 0x0BAD0BAD#32
  crcAlgo := defaultCrc

end Sys2Proof.Machine
end

