-- ==== Sys2Proof/Machine/Record.lean ====
section
/-! DEFINITION. The output records (30_encoding.md R55 to R57): tags, bodies and code values. -/

namespace Sys2Proof.Machine

/-- The diagnostics (60_exceptions.md R126). Each is a WARNING record; none stops the block. -/
inductive Diagnostic where
  | demodulationError
  | syncNotFound
  | truncatedFrame
  | badSymbol
  | checksumMismatch
  | missingTerminator
  | bufferOverflow
deriving DecidableEq, Repr

/-- The WARNING kind of a diagnostic (30_encoding.md R57). -/
def diagnosticKind : Diagnostic → BitVec 8
  | .demodulationError => 1
  | .syncNotFound => 2
  | .truncatedFrame => 3
  | .badSymbol => 4
  | .checksumMismatch => 5
  | .missingTerminator => 6
  | .bufferOverflow => 7

/-- The body of a HEADER record (30_encoding.md R56). -/
structure HeaderBody where
  value : Header16
  truncated : Bool
  msgType : BitVec 5
  dataRole : BitVec 1
  specRev : BitVec 2
  powerRole : BitVec 1
  msgId : BitVec 3
  count : BitVec 3
  hbit15 : BitVec 1
  isData : Bool
deriving DecidableEq, Repr

/-- The body of a FRAME record (30_encoding.md R56, 46_window_output.md R118). `words` has 7 entries. -/
structure FrameBody where
  kind : BitVec 3
  matchCount : BitVec 3
  header : Header16
  count : BitVec 3
  words : List Word32
  crcRx : Word32
  crcCalc : Word32
  fTrunc : Bool
  fBadsym : Bool
  fCrc : Bool
  fNoeop : Bool
  fOvf : Bool
  valid : Bool
  demodErrs : Nat
  nbits : Nat
deriving DecidableEq, Repr

/-- The body of a record: one constructor per tag (30_encoding.md R56). -/
inductive Body where
  | preamble
  | symbol (raw : Code) (sym : BitVec 5) (group : BitVec 4) (pos : BitVec 3)
  | sop (kind matchCount : BitVec 3)
  | header (h : HeaderBody)
  | word (index : BitVec 3) (value : Word32) (truncated : Bool)
  | crc (value : Word32) (truncated : Bool)
  | eop
  | warning (kind : BitVec 8) (group : BitVec 4) (pos : BitVec 3) (expected actual : Word32)
  | frame (f : FrameBody)
  | reset (kind matchCount : BitVec 3) (nbits : Nat)
  | junk (nbits : Nat) (fOvf : Bool)
  | bitrate (bps : BitVec 64)
  | rawbits (nbits : Nat) (bytes : List Byte)
  | fatal (code : BitVec 8)
deriving DecidableEq, Repr

/-- An output record (30_encoding.md R55); its sample range is `[start, stop)`. -/
structure Record where
  start : Sample
  stop : Sample
  body : Body
deriving DecidableEq, Repr

/-- The tag of a body (30_encoding.md R56). -/
def bodyTag : Body → BitVec 8
  | .preamble => 0x01
  | .symbol _ _ _ _ => 0x02
  | .sop _ _ => 0x03
  | .header _ => 0x04
  | .word _ _ _ => 0x05
  | .crc _ _ => 0x06
  | .eop => 0x07
  | .warning _ _ _ _ _ => 0x08
  | .frame _ => 0x09
  | .reset _ _ _ => 0x0A
  | .junk _ _ => 0x0B
  | .bitrate _ => 0x0C
  | .rawbits _ _ => 0x0D
  | .fatal _ => 0x0E

/-- The tag of a record. -/
def recordTag (r : Record) : BitVec 8 := bodyTag r.body

/-- Group ids (30_encoding.md R57): the frame start. -/
def groupFrameStart : BitVec 4 := 0
/-- Group ids: the header. -/
def groupHeader : BitVec 4 := 1
/-- Group ids: data word w is group 2 + w. -/
def groupWord (w : Nat) : BitVec 4 := BitVec.ofNat 4 (2 + w)
/-- Group ids: the checksum trailer. -/
def groupTrailer : BitVec 4 := 9
/-- Group ids: the terminator. -/
def groupTerminator : BitVec 4 := 10
/-- Group ids: none, a window-level record. -/
def groupNone : BitVec 4 := 15

/-- FATAL code 1, ConfigMissing (30_encoding.md R57). -/
def fatalConfigMissing : BitVec 8 := 1

end Sys2Proof.Machine
end

