-- ==== Sys2Proof/Machine/State.lean ====
section
/-! DEFINITION. The state of the block as plain data (10_state.md R13 to R34), its reset value, and the
reasons a step can stop. -/

namespace Sys2Proof.Machine

/-- One bit of the bit buffer with its sample range `[start, stop)` (10_state.md R26). -/
structure BitRecord where
  value : Bool
  start : Sample
  stop : Sample
deriving DecidableEq, Repr

/-- The bit buffer, the block's only memory (10_state.md R27, 20_memory.md R35): index k is position k. -/
abbrev Memory := List BitRecord

/-- The ranges of the buffer, read from sample index `lo` on: each record's range is non-empty and starts
at or after the end of the one before it (41_bit_recovery.md R77 (a), (b)). -/
def Memory.wfFrom : Sample → Memory → Bool
  | _, [] => true
  | lo, b :: bs => decide (lo ≤ b.start) && decide (b.start < b.stop) && Memory.wfFrom b.stop bs

/-- The form every buffer of the block has: ranges non-empty, increasing and disjoint
(41_bit_recovery.md R77). -/
def Memory.wf (m : Memory) : Bool := Memory.wfFrom 0 m

/-- The phases of a window (10_state.md R22). -/
inductive Phase where
  | demodulating
  | synchronizing
  | header
  | payload
  | crc
  | eop
deriving DecidableEq, Repr

/-- The configuration registers, addresses 0 to 5 (10_state.md R14 to R17). -/
structure CfgRegs where
  sampleRate : Reg
  thrShortMin : Reg
  thrSplit : Reg
  thrLongMax : Reg
  thrIdle : Reg
  sopMinMatch : BitVec 3
  rawdumpEn : Bool
deriving DecidableEq, Repr

/-- The stored bits of STATUS (10_state.md R18). WIN_OPEN and PHASE are views (`statusWord`). -/
structure StatusBits where
  started : Bool
  fatal : Bool
  inputErr : Bool
  badev : Bool
  overflow : Bool
deriving DecidableEq, Repr

/-- The window state of bit recovery (10_state.md R23 to R28). `level = none` is UNKNOWN. -/
structure WindowState where
  isOpen : Bool
  firstT : Sample
  prevT : Sample
  level : Option Bool
  halfPending : Bool
  halfStart : Sample
  bits : Memory
  demodErrs : List (Sample × Sample)
deriving DecidableEq, Repr

/-- The parser working registers (10_state.md R29) and the scratch value `crc_start`
(44_frame_parser.md R99). -/
structure ParserRegs where
  idx : Nat
  sopOff : Nat
  sopKind : BitVec 3
  sopMatches : BitVec 3
  hdr : Header16
  count : BitVec 3
  words : List Word32
  crcStart : Nat
  crcRx : Word32
  crcNondata : Bool
  crcCalc : Word32
deriving DecidableEq, Repr

/-- The frame flags (10_state.md R30). -/
structure FrameFlags where
  trunc : Bool
  badsym : Bool
  crc : Bool
  noeop : Bool
  ovf : Bool
deriving DecidableEq, Repr

/-- What SYMDEC returns (42_symbol_mapper.md R80). -/
structure SymdecResult where
  raw : Code
  sym : BitVec 5
deriving DecidableEq, Repr

/-- What CHOOSE returns when it accepts a row (43_frame_sync.md R87), with the row's class (R84). -/
structure ChooseResult where
  kind : BitVec 3
  cls : SopClass
  matchCount : BitVec 3
deriving DecidableEq, Repr

/-- The whole state. `build` holds the build-time parameters and is never written; `rdata`, `symdecOut`,
`chooseOut` and `pending` are the model's own (log entries 2, 3, 4). -/
structure State where
  /-- the build-time parameters (log entry 4) -/
  build : Build
  /-- the configuration registers -/
  cfg : CfgRegs
  /-- the stored bits of STATUS -/
  status : StatusBits
  /-- the phase of the window state machine -/
  phase : Phase
  /-- the window state -/
  win : WindowState
  /-- the parser working registers -/
  par : ParserRegs
  /-- the frame flags -/
  flags : FrameFlags
  /-- every record ever emitted, oldest first (10_state.md R31) -/
  out : List Record
  /-- how many of them were emitted before the last reset (log entry 14) -/
  outBase : Nat
  /-- what CFGR returned last (log entry 3) -/
  rdata : Reg
  /-- what SYMDEC returned last to a table access (log entry 3) -/
  symdecOut : SymdecResult
  /-- what CHOOSE returned last to a table access; `none` is NONE (log entry 3) -/
  chooseOut : Option ChooseResult
  /-- what the host presents and the block has not taken, oldest first (log entry 2) -/
  pending : List Input
deriving DecidableEq, Repr

/-- The machine has no trap and never stops with a fault: "the block has no trap mechanism"
(60_exceptions.md), every window yields a record and none crashes it (46_window_output.md R123), and the
fatal stop is a state it goes on from (60_exceptions.md R140; log entry 13). So there is no reason to
name. -/
inductive Fault
deriving DecidableEq, Repr

/-- Why a step gives an instruction no meaning. -/
inductive Refusal where
  /-- Raised by `exec` for an instruction that has no meaning yet; safe, since the machine stops where the
  hardware would go on. No arm of `exec` raises it. -/
  | notModelled (mnemonic : String)
  /-- Raised by `step` for a table access whose word the decoder rejects: a 20-bit word that is the
  pattern of no SOPK row. No host can present such a word (log entry 1); safe. -/
  | undecodable (e : DecodeError)
deriving DecidableEq, Repr

/-- The configuration registers after reset (10_state.md R34). -/
def CfgRegs.reset : CfgRegs := ⟨0, 1, 0, 0, 0, 3, false⟩

/-- STATUS after reset: every field 0 (10_state.md R18, R34). -/
def StatusBits.reset : StatusBits := ⟨false, false, false, false, false⟩

/-- The window state after reset (10_state.md R34). DESIGN CHOICE, unsafe (log entry 5): `first_t`,
`prev_t` and `half_start`, which R34 leaves unspecified, are 0. -/
def WindowState.reset : WindowState := ⟨false, 0, 0, none, false, 0, [], []⟩

/-- The parser registers cleared: their value between windows (10_state.md R33; log entry 6) and, by
DESIGN CHOICE, unsafe (log entry 5), after reset, where R34 leaves them unspecified. -/
def ParserRegs.cleared : ParserRegs := ⟨0, 0, 0, 0, 0, 0, [], 0, 0, false, 0⟩

/-- The frame flags all cleared: their value when a window opens (41_bit_recovery.md R69) and, by
DESIGN CHOICE, unsafe (log entry 5), after reset, where 10_state.md R34 leaves them unspecified. -/
def FrameFlags.cleared : FrameFlags := ⟨false, false, false, false, false⟩

/-- The machine right after reset, power-on reset being the same (70_reset_and_hazards.md R148 to R150,
10_state.md R34), with the default build and nothing presented. -/
def State.reset : State where
  build := defaultBuild
  cfg := CfgRegs.reset
  status := StatusBits.reset
  phase := .demodulating
  win := WindowState.reset
  par := ParserRegs.cleared
  flags := FrameFlags.cleared
  out := []
  outBase := 0
  rdata := 0
  symdecOut := ⟨0, 0⟩
  chooseOut := none
  pending := []

end Sys2Proof.Machine
end

