-- ==== Sys2Proof/Machine/Ops.lean ====
section
/-! DEFINITION. The named operations over the output stream, the bit buffer, the reset input, the fatal
stop and the input queue. -/

namespace Sys2Proof.Machine

/-! ### The output stream (10_state.md R31) -/

/-- `emit <Record>`: append a record (00_scope.md R10). -/
def emit (r : Record) (s : State) : State := { s with out := s.out ++ [r] }

/-- `raise <Diagnostic>(info)`: append a WARNING record (00_scope.md R10, 30_encoding.md R56). -/
def raise (d : Diagnostic) (group : BitVec 4) (pos : BitVec 3) (expected actual : Word32)
    (rng : Sample × Sample) (s : State) : State :=
  emit ⟨rng.1, rng.2, .warning (diagnosticKind d) group pos expected actual⟩ s

/-- The records emitted since the last reset (10_state.md R31, R34). -/
def outSinceReset (s : State) : List Record := s.out.drop s.outBase

/-! ### The bit buffer (20_memory.md R35, R41, R45) -/

/-- The natural number whose bit j is the j-th element of a list of bits. -/
def bitsValue : List Bool → Nat
  | [] => 0
  | b :: bs => b.toNat + 2 * bitsValue bs

/-- `MemRead(k, n)`: the n-bit value whose bit j is the value of bit record k + j (00_scope.md R10;
20_memory.md R36). No caller reads a record past the end (42_symbol_mapper.md R80) but `rawBytes`, which
wants the 0 such a place gives here (46_window_output.md R121). -/
def memRead (m : Memory) (k n : Nat) : BitVec n :=
  BitVec.ofNat n (bitsValue (((m.drop k).take n).map BitRecord.value))

/-- `nbits`, the length of the bit buffer (10_state.md R27). -/
def nbits (s : State) : Nat := s.win.bits.length

/-- Does the buffer already hold BIT_CAPACITY records (20_memory.md R45)? Never when it is unbounded. -/
def bufferFull (s : State) : Bool :=
  match s.build.bitCapacity with
  | none => false
  | some c => decide (c ≤ nbits s)

/-- `MemWrite(nbits, 1, b)`: append one bit record; `nbits` grows by one (20_memory.md R41). -/
def memWrite (b : BitRecord) (s : State) : State :=
  { s with win := { s.win with bits := s.win.bits ++ [b] } }

/-- A discarded bit sets `f_ovf` and `STATUS.OVERFLOW` (20_memory.md R45; log entry 8). -/
def noteOverflow (s : State) : State :=
  { s with flags := { s.flags with ovf := true }, status := { s.status with overflow := true } }

/-- `append(v, s, e)`: `MemWrite(nbits, 1, b)` when the buffer has room; otherwise the bit is discarded,
and `f_ovf` and `STATUS.OVERFLOW` are set (20_memory.md R45, 41_bit_recovery.md R79). -/
def memAppend (b : BitRecord) (s : State) : State :=
  if bufferFull s then noteOverflow s else memWrite b s

/-- `BitStart(k)` (00_scope.md R10). Callers pass `k < nbits`. -/
def bitStart (s : State) (k : Nat) : Sample := (s.win.bits.map BitRecord.start).getD k s.win.prevT

/-- `BitEnd(k)` (00_scope.md R10). Callers pass `k < nbits`. -/
def bitEnd (s : State) (k : Nat) : Sample := (s.win.bits.map BitRecord.stop).getD k s.win.prevT

/-- `range(a, b)`: the sample range of bit records a to b - 1; empty, at the end of the last bit or at
`prev_t` when there is none, if `b ≤ a` (46_window_output.md R122). -/
def range (s : State) (a b : Nat) : Sample × Sample :=
  if a < b then (bitStart s a, bitEnd s (b - 1))
  else if 0 < nbits s then (bitEnd s (nbits s - 1), bitEnd s (nbits s - 1))
  else (s.win.prevT, s.win.prevT)

/-- The window's edge span `(first_t, prev_t)` (46_window_output.md R122). -/
def edgeSpan (s : State) : Sample × Sample := (s.win.firstT, s.win.prevT)

/-! ### The fatal stop: the one exception the block takes (60_exceptions.md R136 to R141) -/

/-- `raise Fatal(ConfigMissing)`: STATUS.FATAL is set and FATAL is emitted over `(T, T)` of the event that
ran the check; the event itself is dropped (60_exceptions.md R140). Nothing is saved and no control is
transferred (R139); the only way back is the reset input (R141). -/
def enterFatal (t : Sample) (s : State) : State :=
  emit ⟨t, t, .fatal fatalConfigMissing⟩ { s with status := { s.status with fatal := true } }

/-- Reset: every piece of state takes its value of 10_state.md R34; records already emitted stay emitted,
and none has been emitted since (70_reset_and_hazards.md R149, 10_state.md R31). The build parameters are
ROM, and what the host goes on presenting is the host's. -/
def doReset (s : State) : State :=
  { State.reset with
    build := s.build
    out := s.out
    outBase := s.out.length
    pending := s.pending }

/-! ### Taking an input (70_reset_and_hazards.md R156; log entry 2) -/

/-- The oldest input the host presents, and the state that has taken it; `none` when it presents none. -/
def fetch (s : State) : Option (Input × State) :=
  match s.pending with
  | [] => none
  | i :: rest => some (i, { s with pending := rest })

end Sys2Proof.Machine
end

