-- ==== Sys2Proof/Machine/Operands.lean ====
section
/-! DEFINITION. The operand forms: the gap of an edge and its class, the fields of a header, the value of a
group, the registers behind the configuration port's addresses. -/

namespace Sys2Proof.Machine

/-! ### The gap axis (10_state.md R16, 41_bit_recovery.md R70) -/

/-- The five classes of a gap (41_bit_recovery.md R70). -/
inductive GapClass where
  | idle
  | badLow
  | short
  | long
  | badHigh
deriving DecidableEq, Repr

/-- `class(gap)`, the conditions tested in the order of 41_bit_recovery.md R70. -/
def gapClass (c : CfgRegs) (gap : Sample) : GapClass :=
  if c.thrIdle < gap then .idle
  else if gap < c.thrShortMin then .badLow
  else if gap ≤ c.thrSplit then .short
  else if gap ≤ c.thrLongMax then .long
  else .badHigh

/-! ### Header fields (30_encoding.md R52, 44_frame_parser.md R97) -/

/-- `msg_type = hdr[4:0]` -/
def hdrMsgType (h : Header16) : BitVec 5 := h.extractLsb' 0 5
/-- `data_role = hdr[5]` -/
def hdrDataRole (h : Header16) : BitVec 1 := h.extractLsb' 5 1
/-- `spec_rev = hdr[7:6]` -/
def hdrSpecRev (h : Header16) : BitVec 2 := h.extractLsb' 6 2
/-- `power_role = hdr[8]` -/
def hdrPowerRole (h : Header16) : BitVec 1 := h.extractLsb' 8 1
/-- `msg_id = hdr[11:9]` -/
def hdrMsgId (h : Header16) : BitVec 3 := h.extractLsb' 9 3
/-- `count = hdr[14:12]` -/
def hdrCount (h : Header16) : BitVec 3 := h.extractLsb' 12 3
/-- `hbit15 = hdr[15]` -/
def hdrBit15 (h : Header16) : BitVec 1 := h.extractLsb' 15 1

/-- The HEADER record's body for a header value, its fields split as 44_frame_parser.md R97 says;
`is_data = (count != 0)` (30_encoding.md R52). -/
def headerBody (h : Header16) (truncated : Bool) : HeaderBody where
  value := h
  truncated := truncated
  msgType := hdrMsgType h
  dataRole := hdrDataRole h
  specRev := hdrSpecRev h
  powerRole := hdrPowerRole h
  msgId := hdrMsgId h
  count := hdrCount h
  hbit15 := hdrBit15 h
  isData := decide (hdrCount h ≠ 0)

/-! ### Group values (30_encoding.md R53, 20_memory.md R37) -/

/-- What symbol j of a group contributes to the group's value: its nibble (0 when it is not data) at bits
4j+3 to 4j (44_frame_parser.md R94). -/
def groupTerm (sym : Sym) (j : Nat) : Word32 := (symNibble sym).setWidth 32 <<< (4 * j)

/-! ### Register addresses (10_state.md R14) -/

/-- A register behind the configuration port. -/
inductive CfgReg where
  | sampleRate
  | thrShortMin
  | thrSplit
  | thrLongMax
  | thrIdle
  | ctrl
  | status
  | reserved
deriving DecidableEq, Repr

/-- The register at a word address; addresses 8 and above behave as address 7 (10_state.md R14). -/
def cfgRegAt (addr : Reg) : CfgReg :=
  if addr = 0 then .sampleRate
  else if addr = 1 then .thrShortMin
  else if addr = 2 then .thrSplit
  else if addr = 3 then .thrLongMax
  else if addr = 4 then .thrIdle
  else if addr = 5 then .ctrl
  else if addr = 6 then .status
  else .reserved

end Sys2Proof.Machine
end

