-- ==== Sys2Proof/Machine/Flags.lean ====
section
/-! DEFINITION. The flag computations: validity of the configuration, the words of STATUS and CTRL, and
the frame's validity flag. -/

namespace Sys2Proof.Machine

/-- `cfg_valid` (10_state.md R19). -/
def cfgValid (c : CfgRegs) : Bool :=
  decide (1 ≤ c.sampleRate) && decide (1 ≤ c.thrShortMin) && decide (c.thrShortMin ≤ c.thrSplit)
    && decide (c.thrSplit < c.thrLongMax) && decide (c.thrLongMax ≤ c.thrIdle)
    && decide (1 ≤ c.sopMinMatch) && decide (c.sopMinMatch ≤ 4)

/-- The encoding of a phase (10_state.md R22). -/
def phaseCode : Phase → BitVec 3
  | .demodulating => 0
  | .synchronizing => 1
  | .header => 2
  | .payload => 3
  | .crc => 4
  | .eop => 5

/-- One bit at a place of a register. -/
def bitAt (b : Bool) (place : Nat) : Reg := (BitVec.ofBool b).setWidth 64 <<< place

/-- The value CFGR returns for STATUS (10_state.md R18, 40_input_events.md R61). -/
def statusWord (s : State) : Reg :=
  (phaseCode s.phase).setWidth 64 <<< 6 ||| bitAt s.win.isOpen 5 ||| bitAt s.status.overflow 4
    ||| bitAt s.status.badev 3 ||| bitAt s.status.inputErr 2 ||| bitAt s.status.fatal 1
    ||| bitAt s.status.started 0

/-- The value CFGR returns for CTRL: `zext_64(RAWDUMP_EN << 3 | SOP_MIN_MATCH)` (40_input_events.md R61). -/
def ctrlWord (c : CfgRegs) : Reg := bitAt c.rawdumpEn 3 ||| c.sopMinMatch.setWidth 64

/-- `valid` of a frame (46_window_output.md R119). -/
def frameValid (f : FrameFlags) : Bool := !(f.trunc || f.badsym || f.crc || f.noeop || f.ovf)

/-- `f_trunc <- 1` (44_frame_parser.md R95). -/
def setTrunc (s : State) : State := { s with flags := { s.flags with trunc := true } }

/-- `f_badsym <- 1` (44_frame_parser.md R94). -/
def setBadsym (s : State) : State := { s with flags := { s.flags with badsym := true } }

/-- `f_crc <- 1` (45_checksum.md R105). -/
def setCrcFlag (s : State) : State := { s with flags := { s.flags with crc := true } }

/-- `f_noeop <- 1` (44_frame_parser.md R100). -/
def setNoeop (s : State) : State := { s with flags := { s.flags with noeop := true } }

/-- `crc_nondata <- 1` (44_frame_parser.md R99). -/
def setNondata (s : State) : State := { s with par := { s.par with crcNondata := true } }

/-- `STATUS.INPUT_ERR <- 1` (60_exceptions.md R134). -/
def setInputErr (s : State) : State := { s with status := { s.status with inputErr := true } }

/-- `STATUS.BADEV <- 1` (60_exceptions.md R135). -/
def setBadev (s : State) : State := { s with status := { s.status with badev := true } }

/-- `STATUS.STARTED <- 1` (40_input_events.md R66). -/
def setStarted (s : State) : State := { s with status := { s.status with started := true } }

/-- `start_check()` around an event at `t` (40_input_events.md R66): run while `STARTED = 0`; when it
passes, `k` processes the event, and otherwise the event is dropped in the fatal stop. -/
def withStartCheck (t : Sample) (k : State → State) (s : State) : State :=
  if s.status.started then k s
  else if cfgValid s.cfg then k (setStarted s)
  else enterFatal t s

/-- While `STATUS.FATAL = 1` every input event is dropped with no effect (60_exceptions.md R140). -/
def unlessFatal (k : State → State) (s : State) : State := if s.status.fatal then s else k s

end Sys2Proof.Machine
end

