-- ==== Sys2Proof/Machine/ConfigPort.lean ====
section
/-! DEFINITION. The meanings of the configuration accesses (40_input_events.md R60, R61). -/

namespace Sys2Proof.Machine

/-- A register written through the port; STATUS and reserved addresses ignore it, CTRL keeps bits [3:0]
(40_input_events.md R60). -/
def writeCfg (r : CfgReg) (v : Reg) (c : CfgRegs) : CfgRegs :=
  match r with
  | .sampleRate => { c with sampleRate := v }
  | .thrShortMin => { c with thrShortMin := v }
  | .thrSplit => { c with thrSplit := v }
  | .thrLongMax => { c with thrLongMax := v }
  | .thrIdle => { c with thrIdle := v }
  | .ctrl => { c with sopMinMatch := v.extractLsb' 0 3, rawdumpEn := v.getLsbD 3 }
  | .status => c
  | .reserved => c

/-- The value of a register read through the port (40_input_events.md R61). -/
def readCfg (r : CfgReg) (s : State) : Reg :=
  match r with
  | .sampleRate => s.cfg.sampleRate
  | .thrShortMin => s.cfg.thrShortMin
  | .thrSplit => s.cfg.thrSplit
  | .thrLongMax => s.cfg.thrLongMax
  | .thrIdle => s.cfg.thrIdle
  | .ctrl => ctrlWord s.cfg
  | .status => statusWord s
  | .reserved => 0

/-- CFGW addr value: ignored while STATUS.STARTED is 1 (40_input_events.md R60, 10_state.md R20). -/
def execCfgw (addr value : Reg) (s : State) : Host.Outcome State Fault Refusal :=
  .next (if s.status.started then s else { s with cfg := writeCfg (cfgRegAt addr) value s.cfg })

/-- CFGR addr: returns the register's value and has no side effect (40_input_events.md R61, 20_memory.md
R41; log entry 3). -/
def execCfgr (addr : Reg) (s : State) : Host.Outcome State Fault Refusal :=
  .next { s with rdata := readCfg (cfgRegAt addr) s }

end Sys2Proof.Machine
end

