-- ==== Sys2Proof/Machine/BitRecovery.lean ====
section
/-! DEFINITION. Bit clock recovery (41_bit_recovery.md R67 to R79). -/

namespace Sys2Proof.Machine

/-- An edge record is qualifying when the line's level is UNKNOWN or another (41_bit_recovery.md R67). -/
def qualifying (l : Bool) (s : State) : Bool := decide (s.win.level ≠ some l)

/-- `open_window(T, L)` (41_bit_recovery.md R69). `half_start`, unspecified from here on until a half is pending
(10_state.md R25), keeps its value (DESIGN CHOICE, log entry 7). -/
def openWindow (t : Sample) (l : Bool) (s : State) : State :=
  { s with
    win := { s.win with
      isOpen := true, firstT := t, prevT := t, level := some l,
      halfPending := false, bits := [], demodErrs := [] }
    flags := FrameFlags.cleared
    phase := .demodulating }

/-- `half_pending <- 1; half_start <- v`, or `half_pending <- 0` (41_bit_recovery.md R72 to R76). -/
def setHalf (s : State) (v : Sample) : State :=
  { s with win := { s.win with halfPending := true, halfStart := v } }

/-- `half_pending <- 0` (41_bit_recovery.md R73 to R76). DESIGN CHOICE, unsafe for a claim about it (log entry
7): `half_start`, unspecified while `half_pending` is 0 (10_state.md R25), keeps its value. -/
def clearHalf (s : State) : State := { s with win := { s.win with halfPending := false } }

/-- `demod_errs <- demod_errs ++ [(a, b)]` (41_bit_recovery.md R75, R76). -/
def addDemodErr (a b : Sample) (s : State) : State :=
  { s with win := { s.win with demodErrs := s.win.demodErrs ++ [(a, b)] } }

/-- A SHORT gap ending at `t`: the first half of a "1" (41_bit_recovery.md R72) or, with a half pending,
the second, which produces the bit over both halves (R73). -/
def shortGap (t : Sample) (s : State) : State :=
  if s.win.halfPending then clearHalf (memAppend ⟨true, s.win.halfStart, t⟩ s)
  else setHalf s s.win.prevT

/-- A LONG gap ending at `t`: a "0" (41_bit_recovery.md R74), after a DemodulationError over the orphan half
when one is pending (R75). -/
def longGap (t : Sample) (s : State) : State :=
  if s.win.halfPending then
    clearHalf (memAppend ⟨false, s.win.prevT, t⟩ (addDemodErr s.win.halfStart t s))
  else memAppend ⟨false, s.win.prevT, t⟩ s

/-- A BAD_LOW or BAD_HIGH gap ending at `t`: one DemodulationError, from the pending half if there is one,
and a best-effort "0" (41_bit_recovery.md R76). -/
def badGap (t : Sample) (s : State) : State :=
  clearHalf (memAppend ⟨false, s.win.prevT, t⟩
    (addDemodErr (if s.win.halfPending then s.win.halfStart else s.win.prevT) t s))

/-- `prev_t <- T; line_level <- L`, after a gap of an open window (40_input_events.md R62). -/
def advanceEdge (t : Sample) (l : Bool) (s : State) : State :=
  { s with win := { s.win with prevT := t, level := some l } }

end Sys2Proof.Machine
end

