-- ==== Sys2Proof/Machine/Checksum.lean ====
section
/-! DEFINITION. The checksum validator (45_checksum.md R103 to R107). -/

namespace Sys2Proof.Machine

/-- The header's 2 bytes, least significant first (45_checksum.md R103). -/
def headerBytes (h : Header16) : List Byte := [h.extractLsb' 0 8, h.extractLsb' 8 8]

/-- A word's 4 bytes, least significant first (45_checksum.md R103). -/
def wordBytes (w : Word32) : List Byte :=
  [w.extractLsb' 0 8, w.extractLsb' 8 8, w.extractLsb' 16 8, w.extractLsb' 24 8]

/-- `SER(hdr, words)` (45_checksum.md R103). -/
def ser (h : Header16) (words : List Word32) : List Byte := headerBytes h ++ words.flatMap wordBytes

/-- One step of the bit-serial CRC (45_checksum.md R104). -/
def crcShift (poly c : Word32) : Word32 := if c.getLsbD 0 then (c >>> 1) ^^^ poly else c >>> 1

/-- One byte: XOR it in, then 8 shifts (45_checksum.md R104). -/
def crcByte (poly c : Word32) (b : Byte) : Word32 := Nat.repeat (crcShift poly) 8 (c ^^^ b.setWidth 32)

/-- `CRC32(bytes)` (45_checksum.md R104), for the build's CRC_ALGO: the bit-serial CRC, or whatever function
the build has in its place (00_scope.md R6; log entry 4). -/
def crc32 (a : CrcAlgo) (bytes : List Byte) : Word32 :=
  match a with
  | .reflected poly init xorOut => bytes.foldl (crcByte poly) init ^^^ xorOut
  | .other id => Config.otherChecksum id bytes

/-- `crc_calc <- CRC32(SER(hdr, words))` (45_checksum.md R104). -/
def computeCrc (s : State) : State :=
  { s with par := { s.par with crcCalc := crc32 s.build.crcAlgo (ser s.par.hdr s.par.words) } }

/-- Compare `crc_rx` with `crc_calc`, and report a mismatch over the trailer's bits (45_checksum.md R105). -/
def compareCrc (s : State) : State :=
  if s.par.crcRx ≠ s.par.crcCalc ∨ s.par.crcNondata = true then
    raise .checksumMismatch groupTrailer 0 s.par.crcCalc s.par.crcRx
      (range s s.par.crcStart (min (s.par.crcStart + 40) (nbits s))) (setCrcFlag s)
  else s

/-- `CHECK()`: compute, then compare (45_checksum.md R105). It runs on every frame path, truncated or not (R106). -/
def checkCrc (s : State) : State := compareCrc (computeCrc s)

end Sys2Proof.Machine
end

