-- ==== Sys2Proof/Machine/SymbolMapper.lean ====
section
/-! DEFINITION. The 5-to-4 symbol mapper (42_symbol_mapper.md R80 to R83) and the meanings of the CODE rows. -/

namespace Sys2Proof.Machine

/-- `CODE_TABLE[raw]` of a build (42_symbol_mapper.md R81). A well-formed build has all 32 entries. -/
def codeSym (b : Build) (raw : Code) : Sym := b.codeTable.getD raw.toNat .error

/-- What the mapper returns for a code group (42_symbol_mapper.md R80). -/
def symdecOf (b : Build) (raw : Code) : SymdecResult := ⟨raw, symCode (codeSym b raw)⟩

/-- The code group at bit index k (30_encoding.md R49). -/
def codeAt (s : State) (k : Nat) : Code := memRead s.win.bits k 5

/-- The symbol at bit index k (42_symbol_mapper.md R80). -/
def symAt (s : State) (k : Nat) : Sym := codeSym s.build (codeAt s k)

/-- Run the mapper on one code group, as an instruction of its own: it returns (raw, sym) and writes no
state of the block ("State written: none", 42_symbol_mapper.md R80; log entries 1, 3). -/
def runMapper (raw : Code) (s : State) : Host.Outcome State Fault Refusal :=
  .next { s with symdecOut := symdecOf s.build raw }

/-- CODE_00_ERROR (42_symbol_mapper.md R81, row 0x00). -/
def execCode00Error (s : State) : Host.Outcome State Fault Refusal := runMapper 0x00#5 s

/-- CODE_01_ERROR (42_symbol_mapper.md R81, row 0x01). -/
def execCode01Error (s : State) : Host.Outcome State Fault Refusal := runMapper 0x01#5 s

/-- CODE_02_ERROR (42_symbol_mapper.md R81, row 0x02). -/
def execCode02Error (s : State) : Host.Outcome State Fault Refusal := runMapper 0x02#5 s

/-- CODE_03_ERROR (42_symbol_mapper.md R81, row 0x03). -/
def execCode03Error (s : State) : Host.Outcome State Fault Refusal := runMapper 0x03#5 s

/-- CODE_04_ERROR (42_symbol_mapper.md R81, row 0x04). -/
def execCode04Error (s : State) : Host.Outcome State Fault Refusal := runMapper 0x04#5 s

/-- CODE_05_ERROR (42_symbol_mapper.md R81, row 0x05). -/
def execCode05Error (s : State) : Host.Outcome State Fault Refusal := runMapper 0x05#5 s

/-- CODE_06_SYNC3 (42_symbol_mapper.md R81, row 0x06). -/
def execCode06Sync3 (s : State) : Host.Outcome State Fault Refusal := runMapper 0x06#5 s

/-- CODE_07_RST1 (42_symbol_mapper.md R81, row 0x07). -/
def execCode07Rst1 (s : State) : Host.Outcome State Fault Refusal := runMapper 0x07#5 s

/-- CODE_08_ERROR (42_symbol_mapper.md R81, row 0x08). -/
def execCode08Error (s : State) : Host.Outcome State Fault Refusal := runMapper 0x08#5 s

/-- CODE_09_DATA_1 (42_symbol_mapper.md R81, row 0x09). -/
def execCode09Data1 (s : State) : Host.Outcome State Fault Refusal := runMapper 0x09#5 s

/-- CODE_0A_DATA_4 (42_symbol_mapper.md R81, row 0x0A). -/
def execCode0AData4 (s : State) : Host.Outcome State Fault Refusal := runMapper 0x0A#5 s

/-- CODE_0B_DATA_5 (42_symbol_mapper.md R81, row 0x0B). -/
def execCode0BData5 (s : State) : Host.Outcome State Fault Refusal := runMapper 0x0B#5 s

/-- CODE_0C_ERROR (42_symbol_mapper.md R81, row 0x0C). -/
def execCode0CError (s : State) : Host.Outcome State Fault Refusal := runMapper 0x0C#5 s

/-- CODE_0D_EOP (42_symbol_mapper.md R81, row 0x0D). -/
def execCode0DEop (s : State) : Host.Outcome State Fault Refusal := runMapper 0x0D#5 s

/-- CODE_0E_DATA_6 (42_symbol_mapper.md R81, row 0x0E). -/
def execCode0EData6 (s : State) : Host.Outcome State Fault Refusal := runMapper 0x0E#5 s

/-- CODE_0F_DATA_7 (42_symbol_mapper.md R81, row 0x0F). -/
def execCode0FData7 (s : State) : Host.Outcome State Fault Refusal := runMapper 0x0F#5 s

/-- CODE_10_ERROR (42_symbol_mapper.md R81, row 0x10). -/
def execCode10Error (s : State) : Host.Outcome State Fault Refusal := runMapper 0x10#5 s

/-- CODE_11_SYNC2 (42_symbol_mapper.md R81, row 0x11). -/
def execCode11Sync2 (s : State) : Host.Outcome State Fault Refusal := runMapper 0x11#5 s

/-- CODE_12_DATA_8 (42_symbol_mapper.md R81, row 0x12). -/
def execCode12Data8 (s : State) : Host.Outcome State Fault Refusal := runMapper 0x12#5 s

/-- CODE_13_DATA_9 (42_symbol_mapper.md R81, row 0x13). -/
def execCode13Data9 (s : State) : Host.Outcome State Fault Refusal := runMapper 0x13#5 s

/-- CODE_14_DATA_2 (42_symbol_mapper.md R81, row 0x14). -/
def execCode14Data2 (s : State) : Host.Outcome State Fault Refusal := runMapper 0x14#5 s

/-- CODE_15_DATA_3 (42_symbol_mapper.md R81, row 0x15). -/
def execCode15Data3 (s : State) : Host.Outcome State Fault Refusal := runMapper 0x15#5 s

/-- CODE_16_DATA_A (42_symbol_mapper.md R81, row 0x16). -/
def execCode16DataA (s : State) : Host.Outcome State Fault Refusal := runMapper 0x16#5 s

/-- CODE_17_DATA_B (42_symbol_mapper.md R81, row 0x17). -/
def execCode17DataB (s : State) : Host.Outcome State Fault Refusal := runMapper 0x17#5 s

/-- CODE_18_SYNC1 (42_symbol_mapper.md R81, row 0x18). -/
def execCode18Sync1 (s : State) : Host.Outcome State Fault Refusal := runMapper 0x18#5 s

/-- CODE_19_RST2 (42_symbol_mapper.md R81, row 0x19). -/
def execCode19Rst2 (s : State) : Host.Outcome State Fault Refusal := runMapper 0x19#5 s

/-- CODE_1A_DATA_C (42_symbol_mapper.md R81, row 0x1A). -/
def execCode1ADataC (s : State) : Host.Outcome State Fault Refusal := runMapper 0x1A#5 s

/-- CODE_1B_DATA_D (42_symbol_mapper.md R81, row 0x1B). -/
def execCode1BDataD (s : State) : Host.Outcome State Fault Refusal := runMapper 0x1B#5 s

/-- CODE_1C_DATA_E (42_symbol_mapper.md R81, row 0x1C). -/
def execCode1CDataE (s : State) : Host.Outcome State Fault Refusal := runMapper 0x1C#5 s

/-- CODE_1D_DATA_F (42_symbol_mapper.md R81, row 0x1D). -/
def execCode1DDataF (s : State) : Host.Outcome State Fault Refusal := runMapper 0x1D#5 s

/-- CODE_1E_DATA_0 (42_symbol_mapper.md R81, row 0x1E). -/
def execCode1EData0 (s : State) : Host.Outcome State Fault Refusal := runMapper 0x1E#5 s

/-- CODE_1F_ERROR (42_symbol_mapper.md R81, row 0x1F). -/
def execCode1FError (s : State) : Host.Outcome State Fault Refusal := runMapper 0x1F#5 s

end Sys2Proof.Machine
end

