-- ==== Sys2Proof/Machine/FrameSync.lean ====
section
/-! DEFINITION. The frame synchronizer (43_frame_sync.md R84 to R92) and the meanings of the SOPK rows. -/

namespace Sys2Proof.Machine

/-- Code j of a 20-bit candidate: `c_j`, bits 5j+4 to 5j (30_encoding.md R51). -/
def candidateCode (p : Candidate) (j : Nat) : Code := p.extractLsb' (5 * j) 5

/-- One position of a candidate compared with a row's symbol, as 1 or 0 (43_frame_sync.md R85). -/
def positionMatch (b : Build) (p : Candidate) (j : Nat) (want : Sym) : Nat :=
  if codeSym b (candidateCode p j) = want then 1 else 0

/-- `m(i, r)`: how many of the candidate's 4 symbols equal the row's (43_frame_sync.md R85). -/
def rowMatches (b : Build) (p : Candidate) (r : SopRow) : Nat :=
  positionMatch b p 0 r.sym0 + positionMatch b p 1 r.sym1 + positionMatch b p 2 r.sym2
    + positionMatch b p 3 r.sym3

/-- `CHOOSE(i)` on the candidate at i: an exact match first, else the least row with at least
SOP_MIN_MATCH matches, else NONE (43_frame_sync.md R87). -/
def choose (b : Build) (minMatch : BitVec 3) (p : Candidate) : Option SopRow :=
  match b.sopTable.find? fun r => decide (rowMatches b p r = 4) with
  | some r => some r
  | none => b.sopTable.find? fun r => decide (minMatch.toNat ≤ rowMatches b p r)

/-- The candidate at bit offset i: `MemRead(i, 20)` (30_encoding.md R51). -/
def candidateAt (s : State) (i : Nat) : Candidate := memRead s.win.bits i 20

/-- `CHOOSE(i)` in the closed window. -/
def chooseAt (s : State) (i : Nat) : Option SopRow :=
  choose s.build s.cfg.sopMinMatch (candidateAt s i)

/-- An accepted candidate: its bit offset and the row. -/
structure SyncHit where
  off : Nat
  row : SopRow
deriving DecidableEq, Repr

/-- Try `n` offsets from `i` on; the lowest accepted one wins (43_frame_sync.md R86). -/
def scanFrom (s : State) : Nat → Nat → Option SyncHit
  | 0, _ => none
  | n + 1, i =>
    match chooseAt s i with
    | some r => some ⟨i, r⟩
    | none => scanFrom s n (i + 1)

/-- `SYNC()`: offsets 0 to nbits - 20, none when there are fewer than 20 bits (43_frame_sync.md R86). -/
def syncScan (s : State) : Option SyncHit := scanFrom s (nbits s - 19) 0

/-- `sop_off <- i; sop_kind <- r; sop_matches <- m(i, r)` (43_frame_sync.md R86; log entry 9). -/
def acceptHit (h : SyncHit) (s : State) : State :=
  { s with par := { s.par with
      sopOff := h.off
      sopKind := h.row.kind
      sopMatches := BitVec.ofNat 3 (rowMatches s.build (candidateAt s h.off) h.row) } }

/-- Is the accepted kind a reset row, 5 CABLE_RESET or 6 HARD_RESET (43_frame_sync.md R89)? -/
def isResetKind (kind : BitVec 3) : Bool := decide (sopClass kind = .reset)

/-- What CHOOSE returns for a 20-bit candidate (43_frame_sync.md R85, R87). -/
def chooseOf (b : Build) (minMatch : BitVec 3) (p : Candidate) : Option ChooseResult :=
  (choose b minMatch p).map fun r => ⟨r.kind, sopClass r.kind, BitVec.ofNat 3 (rowMatches b p r)⟩

/-- Run the synchronizer's CHOOSE on one candidate, as an instruction of its own: it returns the accepted
row with its class and match count and writes no state of the block (43_frame_sync.md R87; log entries
1, 3). -/
def runChoose (p : Candidate) (s : State) : Host.Outcome State Fault Refusal :=
  .next { s with chooseOut := chooseOf s.build s.cfg.sopMinMatch p }

/-- SOPK0_SOP (43_frame_sync.md R84, row 0). -/
def execSopk0Sop (s : State) : Host.Outcome State Fault Refusal := runChoose 0x8E318#20 s

/-- SOPK1_SOP1 (43_frame_sync.md R84, row 1). -/
def execSopk1Sop1 (s : State) : Host.Outcome State Fault Refusal := runChoose 0x31B18#20 s

/-- SOPK2_SOP2 (43_frame_sync.md R84, row 2). -/
def execSopk2Sop2 (s : State) : Host.Outcome State Fault Refusal := runChoose 0x360D8#20 s

/-- SOPK3_SOP1_DEBUG (43_frame_sync.md R84, row 3). -/
def execSopk3Sop1Debug (s : State) : Host.Outcome State Fault Refusal := runChoose 0x36738#20 s

/-- SOPK4_SOP2_DEBUG (43_frame_sync.md R84, row 4). -/
def execSopk4Sop2Debug (s : State) : Host.Outcome State Fault Refusal := runChoose 0x89B38#20 s

/-- SOPK5_CABLE_RESET (43_frame_sync.md R84, row 5). -/
def execSopk5CableReset (s : State) : Host.Outcome State Fault Refusal := runChoose 0x31F07#20 s

/-- SOPK6_HARD_RESET (43_frame_sync.md R84, row 6). -/
def execSopk6HardReset (s : State) : Host.Outcome State Fault Refusal := runChoose 0xC9CE7#20 s

end Sys2Proof.Machine
end

