-- ==== Sys2Proof/Machine/FrameParser.lean ====
section
/-! DEFINITION. The frame parser (44_frame_parser.md R93 to R102). -/

namespace Sys2Proof.Machine

/-- `phase <- P` (00_scope.md R10). -/
def setPhase (p : Phase) (s : State) : State := { s with phase := p }

/-- `idx <- target` (00_scope.md R10). -/
def setIdx (k : Nat) (s : State) : State := { s with par := { s.par with idx := k } }

/-- Emit the SYMBOL record of the code group at bit index k (46_window_output.md R116). -/
def emitSymbol (group : BitVec 4) (pos : Nat) (k : Nat) (s : State) : State :=
  emit ⟨(range s k (k + 5)).1, (range s k (k + 5)).2,
    .symbol (codeAt s k) (symCode (symAt s k)) group (BitVec.ofNat 3 pos)⟩ s

/-- BadSymbol for an ERROR symbol of a header, word or trailer group, with `f_badsym`
(44_frame_parser.md R94, R102). -/
def noteBadSymbol (group : BitVec 4) (pos : Nat) (k : Nat) (s : State) : State :=
  if symAt s k = .error then
    raise .badSymbol group (BitVec.ofNat 3 pos) 0 0 (range s k (k + 5)) (setBadsym s)
  else s

/-- Inside the trailer, any non-data symbol sets `crc_nondata` (44_frame_parser.md R99). -/
def noteNondata (group : BitVec 4) (k : Nat) (s : State) : State :=
  if group = groupTrailer ∧ symIsData (symAt s k) = false then setNondata s else s

/-- Symbol `pos` of a group, at bit index k: its records and flags (44_frame_parser.md R94). -/
def groupSymbol (group : BitVec 4) (pos k : Nat) (s : State) : State :=
  noteNondata group k (noteBadSymbol group pos k (emitSymbol group pos k s))

/-- Symbols `j` to `j + n - 1` of the group that starts at `idx`, accumulating its value
(44_frame_parser.md R94). -/
def groupSymbols (group : BitVec 4) : Nat → Nat → Word32 → State → Word32 × State
  | 0, _, value, s => (value, s)
  | n + 1, j, value, s =>
    let k := s.par.idx + 5 * j
    groupSymbols group n (j + 1) (value ||| groupTerm (symAt s k) j) (groupSymbol group j k s)

/-- `GROUP(n, g)`: `none` is TRUNCATED; otherwise the value, with `idx` moved past the group
(44_frame_parser.md R94, R95). -/
def group (n : Nat) (g : BitVec 4) (s : State) : Option Word32 × State :=
  if nbits s - s.par.idx < 5 * n then (none, s)
  else
    let r := groupSymbols g n 0 0 s
    (some r.1, setIdx (s.par.idx + 5 * n) r.2)

/-- A truncated group: `f_trunc`, its sentinel record over the bits left, then TruncatedFrame; `idx` does
not move (44_frame_parser.md R95). -/
def truncatedGroup (g : BitVec 4) (body : Body) (s : State) : State :=
  let rng := range s s.par.idx (nbits s)
  raise .truncatedFrame g 0 0 0 rng (emit ⟨rng.1, rng.2, body⟩ (setTrunc s))

/-- Emit a decoded group's value record over its own `5n` bits, which end at `idx`
(46_window_output.md R117). -/
def emitGroupRecord (n : Nat) (body : Body) (s : State) : State :=
  let rng := range s (s.par.idx - 5 * n) s.par.idx
  emit ⟨rng.1, rng.2, body⟩ s

/-- `hdr <- h; count <- h[14:12]` (44_frame_parser.md R96). -/
def setHeader (h : Header16) (s : State) : State :=
  { s with par := { s.par with hdr := h, count := hdrCount h } }

/-- The header (44_frame_parser.md R96). -/
def parseHeader (s : State) : State :=
  match group 4 groupHeader s with
  | (none, s) =>
    setPhase .payload
      (truncatedGroup groupHeader (.header (headerBody s.build.sentinel16 true))
        (setHeader s.build.sentinel16 s))
  | (some v, s) =>
    setPhase .payload
      (emitGroupRecord 4 (.header (headerBody (v.setWidth 16) false)) (setHeader (v.setWidth 16) s))

/-- `words[w] <- v` for the next w (44_frame_parser.md R98). -/
def pushWord (v : Word32) (s : State) : State :=
  { s with par := { s.par with words := s.par.words ++ [v] } }

/-- The list `words` before the first word of a frame. -/
def clearWords (s : State) : State := { s with par := { s.par with words := [] } }

/-- Data word w (44_frame_parser.md R98). -/
def parseWord (w : Nat) (s : State) : State :=
  match group 8 (groupWord w) s with
  | (none, s) =>
    truncatedGroup (groupWord w) (.word (BitVec.ofNat 3 w) s.build.sentinel32 true)
      (pushWord s.build.sentinel32 s)
  | (some v, s) => emitGroupRecord 8 (.word (BitVec.ofNat 3 w) v false) (pushWord v s)

/-- Data words `w` to `w + n - 1` (44_frame_parser.md R98). -/
def parseWords : Nat → Nat → State → State
  | 0, _, s => s
  | n + 1, w, s => parseWords n (w + 1) (parseWord w s)

/-- The payload: `count` data words, then phase CRC (44_frame_parser.md R98). -/
def parsePayload (s : State) : State :=
  setPhase .crc (parseWords s.par.count.toNat 0 (clearWords s))

/-- `crc_start <- idx; crc_nondata <- 0` (44_frame_parser.md R99). -/
def beginTrailer (s : State) : State :=
  { s with par := { s.par with crcStart := s.par.idx, crcNondata := false } }

/-- `crc_rx <- v` (44_frame_parser.md R99). -/
def setCrcRx (v : Word32) (s : State) : State := { s with par := { s.par with crcRx := v } }

/-- The trailer's group and its value record (44_frame_parser.md R99). -/
def parseTrailerGroup (s : State) : State :=
  match group 8 groupTrailer (beginTrailer s) with
  | (none, s) =>
    truncatedGroup groupTrailer (.crc s.build.sentinel32 true) (setCrcRx s.build.sentinel32 s)
  | (some v, s) => emitGroupRecord 8 (.crc v false) (setCrcRx v s)

/-- The checksum trailer with its check, then phase EOP (44_frame_parser.md R99, 45_checksum.md R105). -/
def parseTrailer (s : State) : State := setPhase .eop (checkCrc (parseTrailerGroup s))

/-- `f_noeop <- 1; raise MissingTerminator` over a range (44_frame_parser.md R100). -/
def missingTerminator (rng : Sample × Sample) (s : State) : State :=
  raise .missingTerminator groupTerminator 0 0 0 rng (setNoeop s)

/-- The terminator: exactly one END-OF-PACKET symbol is expected (44_frame_parser.md R100). -/
def parseTerminator (s : State) : State :=
  let k := s.par.idx
  if 5 ≤ nbits s - k then
    let rng := range s k (k + 5)
    let s := emitSymbol groupTerminator 0 k s
    if symAt s k = .eop then setIdx (k + 5) (emit ⟨rng.1, rng.2, .eop⟩ s)
    else missingTerminator rng s
  else missingTerminator (range s k (nbits s)) s

end Sys2Proof.Machine
end

