-- ==== Sys2Proof/Machine/Window.lean ====
section
/-! DEFINITION. The window state machine: the close procedure and the records of a window
(46_window_output.md R108 to R125). -/

namespace Sys2Proof.Machine

/-- One WARNING per DemodulationError of the window, in order (46_window_output.md R111). -/
def raiseDemodErrs (s : State) : State :=
  s.win.demodErrs.foldl (fun s e => raise .demodulationError groupNone 0 0 0 e s) s

/-- BufferOverflow when a bit of the window was discarded (60_exceptions.md R133). -/
def raiseOverflow (s : State) : State :=
  if s.flags.ovf then raise .bufferOverflow groupNone 0 0 0 (edgeSpan s) s else s

/-- The junk path (46_window_output.md R112). -/
def junkOutput (s : State) : State :=
  raise .syncNotFound groupNone 0 0 0 (edgeSpan s)
    (emit ⟨s.win.firstT, s.win.prevT, .junk (nbits s) s.flags.ovf⟩ s)

/-- The reset path (46_window_output.md R113). -/
def resetOutput (s : State) : State :=
  let rng := range s s.par.sopOff (s.par.sopOff + 20)
  emit ⟨rng.1, rng.2, .reset s.par.sopKind s.par.sopMatches (nbits s)⟩ s

/-- PREAMBLE, when bits precede the frame start (46_window_output.md R115). -/
def emitPreamble (s : State) : State :=
  if 0 < s.par.sopOff then
    let rng := range s 0 s.par.sopOff
    emit ⟨rng.1, rng.2, .preamble⟩ s
  else s

/-- The four SYMBOL records of the frame start; no BadSymbol (46_window_output.md R114, 43_frame_sync.md
R92). -/
def emitSopSymbols (s : State) : State :=
  let k := s.par.sopOff
  emitSymbol groupFrameStart 3 (k + 15) (emitSymbol groupFrameStart 2 (k + 10)
    (emitSymbol groupFrameStart 1 (k + 5) (emitSymbol groupFrameStart 0 k s)))

/-- The SOP record (46_window_output.md R114). -/
def emitSop (s : State) : State :=
  let rng := range s s.par.sopOff (s.par.sopOff + 20)
  emit ⟨rng.1, rng.2, .sop s.par.sopKind s.par.sopMatches⟩ s

/-- `idx <- sop_off + 20; phase <- HEADER` (43_frame_sync.md R90). -/
def enterParser (s : State) : State := setPhase .header (setIdx (s.par.sopOff + 20) s)

/-- The range of FRAME and BITRATE: from the frame start to the last consumed bit
(46_window_output.md R118). -/
def frameRange (s : State) : Sample × Sample := (bitStart s s.par.sopOff, bitEnd s (s.par.idx - 1))

/-- The FRAME record's body (46_window_output.md R118); `words` is padded with 0 to 7 entries
(30_encoding.md R56). -/
def frameBody (s : State) : FrameBody where
  kind := s.par.sopKind
  matchCount := s.par.sopMatches
  header := s.par.hdr
  count := s.par.count
  words := (s.par.words ++ List.replicate 7 0).take 7
  crcRx := s.par.crcRx
  crcCalc := s.par.crcCalc
  fTrunc := s.flags.trunc
  fBadsym := s.flags.badsym
  fCrc := s.flags.crc
  fNoeop := s.flags.noeop
  fOvf := s.flags.ovf
  valid := frameValid s.flags
  demodErrs := s.win.demodErrs.length
  nbits := nbits s

/-- The FRAME record (46_window_output.md R118). -/
def emitFrame (s : State) : State := emit ⟨(frameRange s).1, (frameRange s).2, .frame (frameBody s)⟩ s

/-- `bps = floor(SAMPLE_RATE * nbits / (prev_t - first_t))`, the product exact and the result of 64 bits
(46_window_output.md R120). An empty edge span, which R120 rules out, gives a free value (log entry 11). -/
def bitrate (s : State) : BitVec 64 :=
  let span := s.win.prevT - s.win.firstT
  if span = 0 then Config.bitrateOfEmptySpan s.cfg.sampleRate (nbits s)
  else BitVec.ofNat 64 (s.cfg.sampleRate.toNat * nbits s / span.toNat)

/-- The BITRATE record, over FRAME's range (46_window_output.md R120). -/
def emitBitrate (s : State) : State := emit ⟨(frameRange s).1, (frameRange s).2, .bitrate (bitrate s)⟩ s

/-- The frame path, in exactly the order of 46_window_output.md R114. -/
def frameOutput (s : State) : State :=
  emitBitrate (emitFrame (parseTerminator (parseTrailer (parsePayload (parseHeader
    (enterParser (emitSop (emitSopSymbols (emitPreamble s)))))))))

/-- Synchronize and take the window's path: junk, reset or frame (46_window_output.md R110). -/
def windowPath (s : State) : State :=
  match syncScan s with
  | none => junkOutput s
  | some h =>
    let s := acceptHit h s
    if isResetKind s.par.sopKind then resetOutput s else frameOutput s

/-- The bytes of RAWBITS: bit k is bit (k mod 8) of byte (k div 8), the rest of the last byte 0
(46_window_output.md R121). -/
def rawBytes (m : Memory) : List Byte := (List.range ((m.length + 7) / 8)).map fun k => memRead m (8 * k) 8

/-- RAWBITS, when RAWDUMP_EN is 1 (46_window_output.md R121). -/
def dumpRawBits (s : State) : State :=
  if s.cfg.rawdumpEn then
    emit ⟨s.win.firstT, s.win.prevT, .rawbits (nbits s) (rawBytes s.win.bits)⟩ s
  else s

/-- The window's state cleared, at its close or its end with the stream: `win_open`, `half_pending`, `bits`,
`demod_errs` (46_window_output.md R110, 40_input_events.md R64) and the parser registers (10_state.md R33;
log entry 6). `first_t`, `prev_t` and `half_start` keep their values, which no rule reads any more. -/
def clearWindow (s : State) : State :=
  { s with
    win := { s.win with isOpen := false, halfPending := false, bits := [], demodErrs := [] }
    par := ParserRegs.cleared }

/-- `close_window()` (46_window_output.md R110). -/
def closeWindow (s : State) : State :=
  setPhase .demodulating (clearWindow (dumpRawBits (windowPath (raiseOverflow (raiseDemodErrs
    (setPhase .synchronizing s))))))

/-- `line_level <- UNKNOWN` (10_state.md R24). -/
def forgetLevel (s : State) : State := { s with win := { s.win with level := none } }

end Sys2Proof.Machine
end

