-- ==== Sys2Proof/Machine/Events.lean ====
section
/-! DEFINITION. The meanings of the input events (40_input_events.md R62 to R65). -/

namespace Sys2Proof.Machine

/-- A qualifying, in-order edge of an open window: by the class of its gap, close and reopen, or produce
(41_bit_recovery.md R70 to R76). -/
def edgeGap (t : Sample) (l : Bool) (s : State) : State :=
  match gapClass s.cfg (t - s.win.prevT) with
  | .idle => openWindow t l (closeWindow s)
  | .short => advanceEdge t l (shortGap t s)
  | .long => advanceEdge t l (longGap t s)
  | .badLow => advanceEdge t l (badGap t s)
  | .badHigh => advanceEdge t l (badGap t s)

/-- An EDGE once the block is started (40_input_events.md R62). -/
def edgeStarted (t : Sample) (l : Bool) (s : State) : State :=
  if qualifying l s = false then s
  else if s.win.isOpen = false then openWindow t l s
  else if t ≤ s.win.prevT then setInputErr s
  else edgeGap t l s

/-- EDGE T L (40_input_events.md R62). -/
def execEdge (t : Sample) (l : Bool) (s : State) : Host.Outcome State Fault Refusal :=
  .next (unlessFatal (withStartCheck t (edgeStarted t l)) s)

/-- A TICK once the block is started (40_input_events.md R63). -/
def tickStarted (t : Sample) (s : State) : State :=
  if s.win.isOpen = false then s
  else if t < s.win.prevT then setInputErr s
  else if s.cfg.thrIdle < t - s.win.prevT then forgetLevel (closeWindow s)
  else s

/-- TICK T (40_input_events.md R63). -/
def execTick (t : Sample) (s : State) : Host.Outcome State Fault Refusal :=
  .next (unlessFatal (withStartCheck t (tickStarted t)) s)

/-- EOS: the open window is dropped with no record (40_input_events.md R64). -/
def execEos (s : State) : Host.Outcome State Fault Refusal :=
  .next (unlessFatal (fun s => forgetLevel (clearWindow s)) s)

/-- The reserved event: STATUS.BADEV is set, nothing else (40_input_events.md R65). -/
def execRsvd (s : State) : Host.Outcome State Fault Refusal :=
  .next (unlessFatal setBadev s)

end Sys2Proof.Machine
end

