-- ==== Sys2Proof/Machine/Dispatch.lean ====
section
/-! DEFINITION. The dispatch: one arm per instruction. -/

namespace Sys2Proof.Machine

def exec (i : Instr) (s : State) : Host.Outcome State Fault Refusal :=
  match i with
  | .edge t l => Sys2Proof.Machine.execEdge t l s
  | .tick t => Sys2Proof.Machine.execTick t s
  | .eos => Sys2Proof.Machine.execEos s
  | .rsvd => Sys2Proof.Machine.execRsvd s
  | .cfgw addr value => Sys2Proof.Machine.execCfgw addr value s
  | .cfgr addr => Sys2Proof.Machine.execCfgr addr s
  | .code00Error => Sys2Proof.Machine.execCode00Error s
  | .code01Error => Sys2Proof.Machine.execCode01Error s
  | .code02Error => Sys2Proof.Machine.execCode02Error s
  | .code03Error => Sys2Proof.Machine.execCode03Error s
  | .code04Error => Sys2Proof.Machine.execCode04Error s
  | .code05Error => Sys2Proof.Machine.execCode05Error s
  | .code06Sync3 => Sys2Proof.Machine.execCode06Sync3 s
  | .code07Rst1 => Sys2Proof.Machine.execCode07Rst1 s
  | .code08Error => Sys2Proof.Machine.execCode08Error s
  | .code09Data1 => Sys2Proof.Machine.execCode09Data1 s
  | .code0AData4 => Sys2Proof.Machine.execCode0AData4 s
  | .code0BData5 => Sys2Proof.Machine.execCode0BData5 s
  | .code0CError => Sys2Proof.Machine.execCode0CError s
  | .code0DEop => Sys2Proof.Machine.execCode0DEop s
  | .code0EData6 => Sys2Proof.Machine.execCode0EData6 s
  | .code0FData7 => Sys2Proof.Machine.execCode0FData7 s
  | .code10Error => Sys2Proof.Machine.execCode10Error s
  | .code11Sync2 => Sys2Proof.Machine.execCode11Sync2 s
  | .code12Data8 => Sys2Proof.Machine.execCode12Data8 s
  | .code13Data9 => Sys2Proof.Machine.execCode13Data9 s
  | .code14Data2 => Sys2Proof.Machine.execCode14Data2 s
  | .code15Data3 => Sys2Proof.Machine.execCode15Data3 s
  | .code16DataA => Sys2Proof.Machine.execCode16DataA s
  | .code17DataB => Sys2Proof.Machine.execCode17DataB s
  | .code18Sync1 => Sys2Proof.Machine.execCode18Sync1 s
  | .code19Rst2 => Sys2Proof.Machine.execCode19Rst2 s
  | .code1ADataC => Sys2Proof.Machine.execCode1ADataC s
  | .code1BDataD => Sys2Proof.Machine.execCode1BDataD s
  | .code1CDataE => Sys2Proof.Machine.execCode1CDataE s
  | .code1DDataF => Sys2Proof.Machine.execCode1DDataF s
  | .code1EData0 => Sys2Proof.Machine.execCode1EData0 s
  | .code1FError => Sys2Proof.Machine.execCode1FError s
  | .sopk0Sop => Sys2Proof.Machine.execSopk0Sop s
  | .sopk1Sop1 => Sys2Proof.Machine.execSopk1Sop1 s
  | .sopk2Sop2 => Sys2Proof.Machine.execSopk2Sop2 s
  | .sopk3Sop1Debug => Sys2Proof.Machine.execSopk3Sop1Debug s
  | .sopk4Sop2Debug => Sys2Proof.Machine.execSopk4Sop2Debug s
  | .sopk5CableReset => Sys2Proof.Machine.execSopk5CableReset s
  | .sopk6HardReset => Sys2Proof.Machine.execSopk6HardReset s

end Sys2Proof.Machine
end

