-- ==== Sys2Proof/Machine/Step.lean ====
section
/-! DEFINITION. One step: take the oldest input the host presents, decode it and run it (00_scope.md R11;
log entry 2). -/

namespace Sys2Proof.Machine

/-- One step. With nothing presented the block does nothing (60_exceptions.md R147). The reset input is
taken between two instructions (70_reset_and_hazards.md R148). -/
def step (s : State) : Host.Outcome State Fault Refusal :=
  match fetch s with
  | none => .next s
  | some (.reset, s) => .next (doReset s)
  | some (.word w, s) =>
    match decode w with
    | .ok i => exec i s
    | .error e => .refused (.undecodable e)

/-- The state in which the host presents, before anything else, the word `w` of a row of
spec/opcode_table.json with `nbits` bits, so that the very next step runs it. Nothing else changes. -/
def State.withFetchWord (s : State) (nbits w : Nat) : State :=
  { s with pending := .word (portWordOfTable nbits w) :: s.pending }

end Sys2Proof.Machine
end

