-- ==== Sys2Proof/Machine/HostConversion.lean ====
section
/-! DEFINITION. The host's conversion of the document's real-valued options into register values
(00_scope.md R7). It is the host's work, before the first event: no step of the block calls it. -/

namespace Sys2Proof.Machine

/-- A non-negative rational option, `num / den`. -/
structure Ratio where
  num : Nat
  den : Nat
deriving DecidableEq, Repr

/-- The options of 00_scope.md R7. -/
structure HostOptions where
  /-- the half-cell duration in microseconds (00_scope.md R8) -/
  unitIntervalUs : Ratio
  sopMatchTolerance : Ratio
  idleTimeoutUi : Ratio
  /-- samples per second -/
  sampleRate : Reg
  rawdumpEn : Bool
deriving DecidableEq, Repr

/-- `UI_samples = unit_interval_us x SAMPLE_RATE / 10^6`, exact (00_scope.md R7). -/
def uiSamples (o : HostOptions) : Ratio :=
  ⟨o.unitIntervalUs.num * o.sampleRate.toNat, o.unitIntervalUs.den * 10 ^ 6⟩

/-- `THR_SPLIT = floor(3/2 x UI_samples)`. -/
def optThrSplit (o : HostOptions) : Nat := (3 * (uiSamples o).num) / (2 * (uiSamples o).den)

/-- `THR_IDLE = floor(idle_timeout_ui x UI_samples)`. -/
def optThrIdle (o : HostOptions) : Nat :=
  (o.idleTimeoutUi.num * (uiSamples o).num) / (o.idleTimeoutUi.den * (uiSamples o).den)

/-- `SOP_MIN_MATCH = min(4, max(1, ceil(4 x sop_match_tolerance)))`. -/
def optSopMinMatch (o : HostOptions) : Nat :=
  min 4 (max 1 ((4 * o.sopMatchTolerance.num + o.sopMatchTolerance.den - 1) / o.sopMatchTolerance.den))

/-- The registers the default conversion writes (00_scope.md R7). DESIGN CHOICE, unsafe (log entry 16): of a
threshold that does not fit its 64-bit register, which R7 says nothing of, the low 64 bits are written. -/
def hostConfig (o : HostOptions) : CfgRegs where
  sampleRate := o.sampleRate
  thrShortMin := 1
  thrSplit := BitVec.ofNat 64 (optThrSplit o)
  thrLongMax := BitVec.ofNat 64 (optThrIdle o)
  thrIdle := BitVec.ofNat 64 (optThrIdle o)
  sopMinMatch := BitVec.ofNat 3 (optSopMinMatch o)
  rawdumpEn := o.rawdumpEn

end Sys2Proof.Machine
end

