-- ==== Sys2Proof/Machine/Stimulus.lean ====
section
/-! DEFINITION. The event-stream notation's two pseudo-instructions (30_encoding.md R59) and the bits a
transmitter sends for a frame (30_encoding.md R54): stimulus a host writes, not something a step calls. -/

namespace Sys2Proof.Machine

/-- The edges of a bit string after an edge at `t` to level `l`: a 0 is one edge at +2ui, a 1 two edges at
+ui and +2ui, each inverting the level (30_encoding.md R59). DESIGN CHOICE, unsafe (log entry 17): times
accumulate in 64 bits, the width of an event's T, and R59 does not say what a time past 2^64 is. -/
def bmcEdges (ui : Sample) : Sample → Bool → List Bool → List Instr
  | _, _, [] => []
  | t, l, false :: bs => .edge (t + 2 * ui) (!l) :: bmcEdges ui (t + 2 * ui) (!l) bs
  | t, l, true :: bs =>
    .edge (t + ui) (!l) :: .edge (t + 2 * ui) l :: bmcEdges ui (t + 2 * ui) l bs

/-- `BMC <t0> <ui> <L0> <bitstring>` (30_encoding.md R59). -/
def bmc (t0 ui : Sample) (l0 : Bool) (bs : List Bool) : List Instr := .edge t0 l0 :: bmcEdges ui t0 l0 bs

/-- The sample index of the last edge of a BMC expansion: two half-cells a bit, in 64
bits (log entry 17). -/
def bmcEnd (t0 ui : Sample) (n : Nat) : Sample := t0 + BitVec.ofNat 64 (2 * n) * ui

/-- The bit records a BMC expansion from `t` stands for: bit k covers `[t + 2k·ui, t + 2(k+1)·ui)`
(41_bit_recovery.md R73, R74). -/
def bmcRecords (ui : Sample) : Sample → List Bool → Memory
  | _, [] => []
  | t, b :: bs => ⟨b, t, t + 2 * ui⟩ :: bmcRecords ui (t + 2 * ui) bs

/-- The level of the line after a BMC expansion from level `l`: a 0 inverts it, a 1 inverts it twice. -/
def bmcLevel : Bool → List Bool → Bool
  | l, [] => l
  | l, b :: bs => bmcLevel (if b then l else !l) bs

/-- `n` alternating bits that begin with `b` (46_window_output.md R125 (b)). -/
def alternating : Bool → Nat → List Bool
  | _, 0 => []
  | b, n + 1 => b :: alternating (!b) n

/-- `IDLE <d>`: a TICK d samples after the last edge at `tLast` (30_encoding.md R59), the sum taken in 64 bits
(DESIGN CHOICE, unsafe, log entry 17). -/
def idleTick (tLast d : Sample) : Instr := .tick (tLast + d)

/-- The five bits of a code in receive order, bit 0 first (30_encoding.md R49). -/
def codeBits (c : Code) : List Bool := (List.range 5).map c.getLsbD

/-- The code whose entry in CODE_TABLE is a symbol (42_symbol_mapper.md R81, "the same mapping, by
symbol"); the first such code, if there is one. -/
def codeOfSym (b : Build) (sym : Sym) : Code := BitVec.ofNat 5 (b.codeTable.idxOf sym)

/-- The bits of a list of symbols, in receive order. -/
def symBits (b : Build) (syms : List Sym) : List Bool := syms.flatMap fun y => codeBits (codeOfSym b y)

/-- The `n` data symbols of a group's value, least significant nibble first (20_memory.md R37). -/
def valueSyms (n : Nat) (v : Word32) : List Sym := (List.range n).map fun j => .data (v.extractLsb' (4 * j) 4)

/-- The four symbols of a frame-start row. -/
def rowSyms (r : SopRow) : List Sym := [r.sym0, r.sym1, r.sym2, r.sym3]

/-- The symbols of a frame after its frame start: header, data words, trailer, terminator
(30_encoding.md R54). -/
def bodySyms (h : Header16) (words : List Word32) (crc : Word32) : List Sym :=
  valueSyms 4 (h.setWidth 32) ++ words.flatMap (valueSyms 8) ++ valueSyms 8 crc ++ [.eop]

/-- The symbols of a frame (30_encoding.md R54). -/
def frameSyms (r : SopRow) (h : Header16) (words : List Word32) (crc : Word32) : List Sym :=
  rowSyms r ++ bodySyms h words crc

end Sys2Proof.Machine
end

