-- ==== Sys2Proof/Safety.lean ====
section
/-! DEFINITION. What a safe state and a safe run are, in the terms the statements use. -/

namespace Sys2Proof

/-- The instructions that are input events (30_encoding.md R47). -/
def Instr.isEvent : Instr → Prop
  | .edge _ _ | .tick _ | .eos | .rsvd => True
  | _ => False

/-- The instructions that run the start check (40_input_events.md R66), with their sample index. -/
def Instr.checkTime : Instr → Option Sample
  | .edge t _ => some t
  | .tick t => some t
  | _ => none

/-- A build that decodes as the spec's default tables and checksum say; its capacity and its sentinels may
be others. -/
def Build.defaultTables (b : Build) : Prop :=
  b.codeTable = Machine.defaultCodeTable ∧ b.sopTable = Machine.defaultSopTable ∧ b.crcAlgo = Machine.defaultCrc

end Sys2Proof

namespace Sys2Proof.Machine

/-- The block is in the fatal stop (60_exceptions.md R140); 70_reset_and_hazards.md R152: "A model should
treat this as a faulted state, not as a normal end". -/
def State.faulted (s : State) : Bool := s.status.fatal

/-! ### The invariant of every state between two steps -/

/-- The sample index where the buffer's last record ends, `lo` when the buffer is empty. -/
def Memory.endFrom : Sample → Memory → Sample
  | lo, [] => lo
  | _, b :: bs => Memory.endFrom b.stop bs

/-- A range that is not empty and lies inside the window's edge span. -/
def WindowState.spans (w : WindowState) (e : Sample × Sample) : Prop :=
  w.firstT ≤ e.1 ∧ e.1 < e.2 ∧ e.2 ≤ w.prevT

/-- The sample index before which every bit of the window has ended: the start of the pending half-cell, or
the last edge (41_bit_recovery.md R72). -/
def WindowState.bitLimit (w : WindowState) : Sample := if w.halfPending then w.halfStart else w.prevT

/-- With no window open, nothing of a window is left (10_state.md R24, R33). -/
def State.ClosedInv (s : State) : Prop :=
  s.win.isOpen = false →
    s.win.level = none ∧ s.win.halfPending = false ∧ s.win.bits = [] ∧ s.win.demodErrs = []

/-- While a window is open: decoding has started, the level is known, the bits lie in order inside the edge
span and before the pending half-cell (41_bit_recovery.md R77), so do the errors' ranges, and the flags set
only while a closed window is processed are clear (10_state.md R30). -/
def State.OpenInv (s : State) : Prop :=
  s.win.isOpen = true →
    s.status.started = true ∧ s.win.level.isSome = true
      ∧ s.win.firstT ≤ s.win.bitLimit
      ∧ (s.win.halfPending = true → s.win.halfStart < s.win.prevT)
      ∧ Memory.wfFrom s.win.firstT s.win.bits = true
      ∧ Memory.endFrom s.win.firstT s.win.bits ≤ s.win.bitLimit
      ∧ (∀ e ∈ s.win.demodErrs, s.win.spans e)
      ∧ s.flags.trunc = false ∧ s.flags.badsym = false ∧ s.flags.crc = false ∧ s.flags.noeop = false

/-- BIT_CAPACITY holds: the buffer never has more records, and while the window is open `f_ovf` is set only
with the buffer at its capacity and STATUS.OVERFLOW set (20_memory.md R45). -/
def State.CapacityInv (s : State) : Prop :=
  (∀ c, s.build.bitCapacity = some c → nbits s ≤ c)
    ∧ (s.win.isOpen = true → s.flags.ovf = true →
        s.status.overflow = true ∧ s.build.bitCapacity = some (nbits s))

/-- The control state between two steps: phase DEMODULATING (10_state.md R22), parser registers clear
(R33), a started block has a valid configuration (R19, R20), and the fatal stop excludes decoding
(40_input_events.md R66). -/
def State.ControlInv (s : State) : Prop :=
  s.phase = .demodulating ∧ s.par = ParserRegs.cleared
    ∧ (s.status.started = true → cfgValid s.cfg = true)
    ∧ (s.status.fatal = true → s.status.started = false)

/-- The invariant: it holds at reset and every step keeps it. -/
def State.Inv (s : State) : Prop :=
  s.build.wf = true ∧ s.ControlInv ∧ s.ClosedInv ∧ s.OpenInv ∧ s.CapacityInv ∧ s.outBase ≤ s.out.length

/-- Every record emitted has `start <= end` (30_encoding.md R55). -/
def State.RangesOrdered (s : State) : Prop := ∀ r ∈ s.out, r.start ≤ r.stop

/-! ### Events -/

/-- A started block, not in the fatal stop, with a window open: the states in which edges are timed. -/
def State.Decoding (s : State) : Prop :=
  s.status.fatal = false ∧ s.status.started = true ∧ s.win.isOpen = true

/-- Sample index `t` is beyond the idle limit of the open window (41_bit_recovery.md R71,
40_input_events.md R63). -/
def State.IdleAt (s : State) (t : Sample) : Prop :=
  s.win.prevT ≤ t ∧ s.cfg.thrIdle < t - s.win.prevT

/-- An edge that is timed against the previous one: qualifying, in order, not beyond the idle limit
(40_input_events.md R62). -/
def State.TimedEdge (s : State) (t : Sample) (l : Bool) : Prop :=
  s.Decoding ∧ s.win.level ≠ some l ∧ s.win.prevT < t ∧ t - s.win.prevT ≤ s.cfg.thrIdle

/-- The instruction closes the open window: a qualifying EDGE or a TICK beyond the idle limit
(41_bit_recovery.md R71, 40_input_events.md R63). -/
def ClosesWindow (i : Instr) (s : State) : Prop :=
  s.Decoding ∧
    match i with
    | .edge t l => s.win.level ≠ some l ∧ s.IdleAt t
    | .tick t => s.IdleAt t
    | _ => False

/-- The instruction runs the start check and fails it, at sample index `t` (40_input_events.md R66). -/
def EntersFatal (i : Instr) (t : Sample) (s : State) : Prop :=
  i.checkTime = some t ∧ s.status.fatal = false ∧ s.status.started = false ∧ cfgValid s.cfg = false

/-- Run a list of instructions, each from the state the one before it left. -/
def runInstrs : List Instr → State → Host.Outcome State Fault Refusal
  | [], s => .next s
  | i :: is, s =>
    match exec i s with
    | .next t => runInstrs is t
    | .fault r => .fault r
    | .refused r => .refused r

/-! ### The records of a close, in the order of 46_window_output.md R110 -/

/-- The WARNING records of the window's DemodulationErrors (46_window_output.md R111). -/
def demodWarnings (s : State) : List Record :=
  s.win.demodErrs.map fun e => ⟨e.1, e.2, .warning 1 15 0 0 0⟩

/-- BufferOverflow, if a bit was discarded (60_exceptions.md R133). -/
def overflowWarnings (s : State) : List Record :=
  if s.flags.ovf then [⟨s.win.firstT, s.win.prevT, .warning 7 15 0 0 0⟩] else []

/-- The window-level warnings that come first in every closed window's output. -/
def windowWarnings (s : State) : List Record := demodWarnings s ++ overflowWarnings s

/-- RAWBITS, if enabled (46_window_output.md R121). -/
def rawRecords (s : State) : List Record :=
  if s.cfg.rawdumpEn then
    [⟨s.win.firstT, s.win.prevT, .rawbits s.win.bits.length (rawBytes s.win.bits)⟩]
  else []

/-- A terminal record: FRAME, RESET or JUNK (46_window_output.md R123). -/
def isTerminal (r : Record) : Bool :=
  match r.body with
  | .frame _ => true
  | .reset _ _ _ => true
  | .junk _ _ => true
  | _ => false

/-- A WARNING of a diagnostic (60_exceptions.md R126). -/
def isWarning (d : Diagnostic) (r : Record) : Bool :=
  match r.body with
  | .warning kind _ _ _ _ => kind == diagnosticKind d
  | _ => false

/-- The tag of the terminal record a window yields (46_window_output.md R123). -/
def terminalTag (s : State) : BitVec 8 :=
  match syncScan s with
  | none => 0x0B
  | some h => if sopClass h.row.kind = .reset then 0x0A else 0x09

/-- The end of the last bit of the window, or its last edge when it has no bit (46_window_output.md R122: E). -/
def windowEnd (s : State) : Sample := s.win.bits.getLast?.elim s.win.prevT BitRecord.stop

/-- The samples of bit records `a` to `b - 1`, from the records themselves; empty, at `windowEnd`, if there
are none (46_window_output.md R122). Written for `b ≤ nbits`. -/
def bitSpan (s : State) (a b : Nat) : Sample × Sample :=
  if a < b then
    (s.win.bits[a]?.elim (windowEnd s) BitRecord.start, s.win.bits[b - 1]?.elim (windowEnd s) BitRecord.stop)
  else (windowEnd s, windowEnd s)

/-- A record over a range. -/
def recordOver (rng : Sample × Sample) (b : Body) : Record := ⟨rng.1, rng.2, b⟩

/-- The SYMBOL record of symbol j of the group with id `g` at bit index k, as received
(46_window_output.md R116). -/
def receivedSymbol (s : State) (g : BitVec 4) (k j : Nat) : Record :=
  recordOver (bitSpan s (k + 5 * j) (k + 5 * j + 5))
    (.symbol (codeAt s (k + 5 * j)) (symCode (symAt s (k + 5 * j))) g (BitVec.ofNat 3 j))

/-- The records that symbol j of the group with id `g` at bit index k emits: SYMBOL, then BadSymbol if it is
ERROR (44_frame_parser.md R94). -/
def symbolRecords (s : State) (g : BitVec 4) (k j : Nat) : List Record :=
  receivedSymbol s g k j ::
    (if symAt s (k + 5 * j) = .error then
      [recordOver (bitSpan s (k + 5 * j) (k + 5 * j + 5)) (.warning 4 g (BitVec.ofNat 3 j) 0 0)]
    else [])

/-- In how many of its four positions the candidate at bit index k has the row's symbol
(43_frame_sync.md R85). -/
def startMatches (s : State) (k : Nat) (row : SopRow) : Nat :=
  (List.zip (List.range 4) (rowSyms row)).countP fun y => decide (symAt s (k + 5 * y.1) = y.2)

/-- The window's frame start is the 20 bits `start` after the bits `pre`, of an ordinary or extended row: the
row's own symbols, or any candidate that CHOOSE accepts as the row; no earlier offset is accepted
(43_frame_sync.md R86, R87, R90). -/
def AcceptedStart (s : State) (pre start : List Bool) (row : SopRow) : Prop :=
  row ∈ defaultSopTable ∧ sopClass row.kind ≠ .reset ∧ start.length = 20
    ∧ (∀ j < pre.length, chooseAt s j = none)
    ∧ (start = symBits s.build (rowSyms row) ∨ chooseAt s pre.length = some row)

/-! ### The records of a frame, in the order of 46_window_output.md R114 -/

/-- `count` of a header, bits 14 to 12 (30_encoding.md R52). -/
def sentCount (h : Header16) : Nat := h.toNat / 4096 % 8

/-- The HEADER record's body, its fields cut from the header by their bit positions: type 4 to 0, data role
5, revision 7 to 6, power role 8, id 11 to 9, count 14 to 12, bit 15 (30_encoding.md R52, 44_frame_parser.md
R97). -/
def sentHeader (h : Header16) : HeaderBody where
  value := h
  truncated := false
  msgType := BitVec.ofNat 5 h.toNat
  dataRole := BitVec.ofNat 1 (h.toNat / 32)
  specRev := BitVec.ofNat 2 (h.toNat / 64)
  powerRole := BitVec.ofNat 1 (h.toNat / 256)
  msgId := BitVec.ofNat 3 (h.toNat / 512)
  count := BitVec.ofNat 3 (sentCount h)
  hbit15 := BitVec.ofNat 1 (h.toNat / 32768)
  isData := decide (sentCount h ≠ 0)

/-- The SYMBOL records of the symbols sent from bit index `k` on, each over its own five bits
(46_window_output.md R116). -/
def sentSymbols (s : State) (g : BitVec 4) (k : Nat) (syms : List Sym) : List Record :=
  syms.mapIdx fun j y => recordOver (bitSpan s (k + 5 * j) (k + 5 * j + 5))
    (.symbol (codeOfSym s.build y) (symCode y) g (BitVec.ofNat 3 j))

/-- The records of a group that arrives as sent: its SYMBOLs, then its value record over all its bits
(46_window_output.md R117). -/
def sentGroup (s : State) (g : BitVec 4) (k : Nat) (syms : List Sym) (body : Body) : List Record :=
  sentSymbols s g k syms ++ [recordOver (bitSpan s k (k + 5 * syms.length)) body]

/-- PREAMBLE, if bits come first, and the frame start as received with its SOP and match count; an ERROR in it
raises no BadSymbol (46_window_output.md R114, R115, 43_frame_sync.md R92). -/
def startRecords (s : State) (k : Nat) (row : SopRow) : List Record :=
  (if 0 < k then [recordOver (bitSpan s 0 k) .preamble] else [])
    ++ (List.range 4).map (receivedSymbol s 0 k)
    ++ [recordOver (bitSpan s k (k + 20)) (.sop row.kind (BitVec.ofNat 3 (startMatches s k row)))]

/-- The header group of a frame that starts at `k` (44_frame_parser.md R96). -/
def sentHeaderGroup (s : State) (k : Nat) (h : Header16) : List Record :=
  sentGroup s 1 (k + 20) (valueSyms 4 (h.setWidth 32)) (.header (sentHeader h))

/-- The data word groups of a frame that starts at `k` (44_frame_parser.md R98). -/
def sentWordGroups (s : State) (k : Nat) (words : List Word32) : List Record :=
  (words.mapIdx fun i w => sentGroup s (BitVec.ofNat 4 (2 + i)) (k + 40 + 40 * i) (valueSyms 8 w)
    (.word (BitVec.ofNat 3 i) w false)).flatten

/-- The terminator's SYMBOL and EOP (44_frame_parser.md R100). -/
def sentTerminator (s : State) (k : Nat) : List Record := sentGroup s 10 k [.eop] .eop

/-- FRAME and BITRATE over the bits from the frame start to the last bit consumed
(46_window_output.md R118, R120). -/
def frameRecords (s : State) (k stop : Nat) (f : FrameBody) : List Record :=
  [recordOver (bitSpan s k stop) (.frame f),
   recordOver (bitSpan s k stop) (.bitrate (BitVec.ofNat 64
    (s.cfg.sampleRate.toNat * nbits s / (s.win.prevT.toNat - s.win.firstT.toNat))))]

/-- The FRAME body of a frame at bit index `k` that arrives undamaged: valid unless a bit of the window was
discarded (46_window_output.md R118, R119, R125 (b)). -/
def cleanFrameBody (s : State) (k : Nat) (row : SopRow) (h : Header16) (words : List Word32)
    (crc : Word32) : FrameBody where
  kind := row.kind
  matchCount := BitVec.ofNat 3 (startMatches s k row)
  header := h
  count := BitVec.ofNat 3 (sentCount h)
  words := words ++ List.replicate (7 - words.length) 0
  crcRx := crc
  crcCalc := crc
  fTrunc := false
  fBadsym := false
  fCrc := false
  fNoeop := false
  fOvf := s.flags.ovf
  valid := !s.flags.ovf
  demodErrs := s.win.demodErrs.length
  nbits := nbits s

/-- The records of a frame up to its trailer's CRC record, all groups as sent (46_window_output.md R114). -/
def sentThroughTrailer (s : State) (k : Nat) (row : SopRow) (h : Header16) (words : List Word32)
    (crc : Word32) : List Record :=
  startRecords s k row ++ sentHeaderGroup s k h ++ sentWordGroups s k words
    ++ sentGroup s 9 (k + 40 + 40 * words.length) (valueSyms 8 crc) (.crc crc false)

/-- The records of a frame that arrives undamaged after `k` bits (46_window_output.md R114). -/
def cleanFrameRecords (s : State) (k : Nat) (row : SopRow) (h : Header16) (words : List Word32)
    (crc : Word32) : List Record :=
  let q := k + 80 + 40 * words.length
  sentThroughTrailer s k row h words crc ++ sentTerminator s q
    ++ frameRecords s k (q + 5) (cleanFrameBody s k row h words crc)

/-- The records of a frame that is cut off inside its terminator: MissingTerminator over the bits left, and FRAME
ends with the trailer (44_frame_parser.md R100). -/
def noTerminatorRecords (s : State) (k : Nat) (row : SopRow) (h : Header16) (words : List Word32)
    (crc : Word32) : List Record :=
  let q := k + 80 + 40 * words.length
  sentThroughTrailer s k row h words crc ++ [recordOver (bitSpan s q (nbits s)) (.warning 6 10 0 0 0)]
    ++ frameRecords s k q { cleanFrameBody s k row h words crc with fNoeop := true, valid := false }

/-- The records of a frame that arrives after `k` bits with its trailer damaged to the value `rx`, one of its
symbols an ERROR or not: SYMBOLs as received, the CRC record, ChecksumMismatch, and FRAME with the flags that
follow (45_checksum.md R105, R107 (c)). -/
def badTrailerRecords (s : State) (k : Nat) (row : SopRow) (h : Header16) (words : List Word32)
    (crc rx : Word32) (bad : Bool) : List Record :=
  let q := k + 40 + 40 * words.length
  startRecords s k row ++ sentHeaderGroup s k h ++ sentWordGroups s k words
    ++ (List.range 8).flatMap (symbolRecords s 9 q)
    ++ [recordOver (bitSpan s q (q + 40)) (.crc rx false),
        recordOver (bitSpan s q (q + 40)) (.warning 5 9 0 crc rx)]
    ++ sentTerminator s (q + 40)
    ++ frameRecords s k (q + 45)
      { cleanFrameBody s k row h words crc with crcRx := rx, fBadsym := bad, fCrc := true, valid := false }

/-- The records of a group cut off at bit index `q`: its sentinel record and TruncatedFrame, both over the
bits left (44_frame_parser.md R95). -/
def truncatedRecords (s : State) (g : BitVec 4) (q : Nat) (body : Body) : List Record :=
  [recordOver (bitSpan s q (nbits s)) body, recordOver (bitSpan s q (nbits s)) (.warning 3 g 0 0 0)]

/-- The records of data words `m` to `n - 1` and of the trailer, all cut off at bit index `q`
(44_frame_parser.md R95, R98, R99). -/
def truncatedWordsAndTrailer (s : State) (q m n : Nat) : List Record :=
  (List.range' m (n - m)).flatMap (fun i =>
    truncatedRecords s (BitVec.ofNat 4 (2 + i)) q (.word (BitVec.ofNat 3 i) s.build.sentinel32 true))
    ++ truncatedRecords s 9 q (.crc s.build.sentinel32 true)

/-- The comparison of a trailer cut off at bit index `q` with the value computed: a ChecksumMismatch unless
that is the sentinel (45_checksum.md R105, R106). -/
def sentinelMismatch (s : State) (q : Nat) (computed : Word32) : List Record :=
  if computed = s.build.sentinel32 then []
  else [recordOver (bitSpan s q (nbits s)) (.warning 5 9 0 computed s.build.sentinel32)]

/-- The FRAME body of a frame cut off before its trailer's end, with `stored` as its words
(44_frame_parser.md R95, 45_checksum.md R106). -/
def cutFrameBody (s : State) (k : Nat) (row : SopRow) (h : Header16) (stored : List Word32)
    (noeop : Bool) : FrameBody :=
  let computed := crc32 s.build.crcAlgo (ser h stored)
  { cleanFrameBody s k row h stored s.build.sentinel32 with
    crcCalc := computed, fTrunc := true, fCrc := decide (computed ≠ s.build.sentinel32), fNoeop := noeop
    valid := false }

/-- The terminator check at bit index `q` where the symbol `y` of a data group stands, if five bits are left
(44_frame_parser.md R100). -/
def missingTerminatorRecords (s : State) (q : Nat) (y : Sym) : List Record :=
  if q + 5 ≤ nbits s then
    sentSymbols s 10 q [y] ++ [recordOver (bitSpan s q (q + 5)) (.warning 6 10 0 0 0)]
  else [recordOver (bitSpan s q (nbits s)) (.warning 6 10 0 0 0)]

/-- The records of a frame that starts at `k` and is cut off after `m` whole data words: every later word and
the trailer is a sentinel at the same bit index, the checksum covers the sentinels, and the terminator is
looked for where the cut group stands (44_frame_parser.md R95, R98 to R100, 45_checksum.md R106). -/
def cutFrameRecords (s : State) (k m : Nat) (row : SopRow) (h : Header16) (words : List Word32)
    (crc : Word32) : List Record :=
  let q := k + 40 + 40 * m
  let stored := words.take m ++ List.replicate (words.length - m) s.build.sentinel32
  startRecords s k row ++ sentHeaderGroup s k h ++ sentWordGroups s k (words.take m)
    ++ truncatedWordsAndTrailer s q m words.length
    ++ sentinelMismatch s q (crc32 s.build.crcAlgo (ser h stored))
    ++ missingTerminatorRecords s q (.data (((words ++ [crc]).getD m 0).extractLsb' 0 4))
    ++ frameRecords s k q (cutFrameBody s k row h stored true)

/-- Does an END-OF-PACKET stand at bit index `q` (44_frame_parser.md R100)? -/
def hasTerminator (s : State) (q : Nat) : Bool := decide (q + 5 ≤ nbits s) && decide (symAt s q = .eop)

/-- The terminator check at bit index `q`, whatever stands there (44_frame_parser.md R100). -/
def terminatorRecords (s : State) (q : Nat) : List Record :=
  if q + 5 ≤ nbits s then
    [receivedSymbol s 10 q 0,
     recordOver (bitSpan s q (q + 5)) (if symAt s q = .eop then .eop else .warning 6 10 0 0 0)]
  else [recordOver (bitSpan s q (nbits s)) (.warning 6 10 0 0 0)]

/-- The records of a frame that starts at `k` and is cut off in its header: the header is SENTINEL16, whose
count of words follow as sentinels, then the trailer, all at the same bit index, and then what the bits left are
taken for (44_frame_parser.md R95, R100, 45_checksum.md R106). -/
def cutHeaderRecords (s : State) (k : Nat) (row : SopRow) : List Record :=
  let q := k + 20
  let h := s.build.sentinel16
  let stored := List.replicate (sentCount h) s.build.sentinel32
  startRecords s k row ++ truncatedRecords s 1 q (.header { sentHeader h with truncated := true })
    ++ truncatedWordsAndTrailer s q 0 (sentCount h)
    ++ sentinelMismatch s q (crc32 s.build.crcAlgo (ser h stored))
    ++ terminatorRecords s q
    ++ frameRecords s k (if hasTerminator s q then q + 5 else q)
      (cutFrameBody s k row h stored (!hasTerminator s q))

/-- The 20-bit pattern of a frame-start row: the codes of its four symbols, the first in bits 4 to 0
(43_frame_sync.md R84). -/
def rowPattern (b : Build) (r : SopRow) : Candidate :=
  codeOfSym b r.sym3 ++ codeOfSym b r.sym2 ++ codeOfSym b r.sym1 ++ codeOfSym b r.sym0

/-- In how many of the four positions two frame-start rows differ (43_frame_sync.md R84). -/
def rowDistance (r r' : SopRow) : Nat :=
  (List.zip (rowSyms r) (rowSyms r')).countP fun y => decide (y.1 ≠ y.2)

/-! ### The configuration port, address by address -/

/-- CFGW writes the register its address names: 0 to 4 whole, CTRL at 5 bits [3:0], nothing from 6 on
(40_input_events.md R60). -/
def State.WritesByAddress (s : State) (v : Reg) : Prop :=
  exec (.cfgw 0 v) s = .next { s with cfg := { s.cfg with sampleRate := v } }
    ∧ exec (.cfgw 1 v) s = .next { s with cfg := { s.cfg with thrShortMin := v } }
    ∧ exec (.cfgw 2 v) s = .next { s with cfg := { s.cfg with thrSplit := v } }
    ∧ exec (.cfgw 3 v) s = .next { s with cfg := { s.cfg with thrLongMax := v } }
    ∧ exec (.cfgw 4 v) s = .next { s with cfg := { s.cfg with thrIdle := v } }
    ∧ exec (.cfgw 5 v) s = .next
        { s with cfg := { s.cfg with sopMinMatch := v.extractLsb' 0 3, rawdumpEn := v.getLsbD 3 } }
    ∧ ∀ a, 6 ≤ a.toNat → exec (.cfgw a v) s = .next s

/-- CFGR returns the register its address names: 0 to 4 whole, CTRL at 5, STATUS at 6, 0 from 7 on; nothing
else changes (40_input_events.md R61; the returned value stands in `rdata`, log entry 3). -/
def State.ReadsByAddress (s : State) : Prop :=
  exec (.cfgr 0) s = .next { s with rdata := s.cfg.sampleRate }
    ∧ exec (.cfgr 1) s = .next { s with rdata := s.cfg.thrShortMin }
    ∧ exec (.cfgr 2) s = .next { s with rdata := s.cfg.thrSplit }
    ∧ exec (.cfgr 3) s = .next { s with rdata := s.cfg.thrLongMax }
    ∧ exec (.cfgr 4) s = .next { s with rdata := s.cfg.thrIdle }
    ∧ exec (.cfgr 5) s = .next { s with
        rdata := BitVec.ofNat 64 (8 * s.cfg.rawdumpEn.toNat + s.cfg.sopMinMatch.toNat) }
    ∧ exec (.cfgr 6) s = .next { s with
        rdata := BitVec.ofNat 64 (64 * (phaseCode s.phase).toNat + 32 * s.win.isOpen.toNat
          + 16 * s.status.overflow.toNat + 8 * s.status.badev.toNat + 4 * s.status.inputErr.toNat
          + 2 * s.status.fatal.toNat + s.status.started.toNat) }
    ∧ ∀ a, 7 ≤ a.toNat → exec (.cfgr a) s = .next { s with rdata := 0 }

/-! ### Registers that no rule reads -/

/-- Two states that agree on everything a rule reads: the build parameters, the configuration, STATUS, the
phase and the window state but for what 10_state.md R34 calls "unspecified, never read" (`first_t`, `prev_t`
and the frame flags with no window open, `half_start` with no half pending, the parser registers). The
records emitted so far, the results returned so far and what the host presents may differ. -/
def State.AgreeOnRead (s t : State) : Prop :=
  t.build = s.build ∧ t.cfg = s.cfg ∧ t.status = s.status ∧ t.phase = s.phase
    ∧ t.win.isOpen = s.win.isOpen ∧ t.win.level = s.win.level ∧ t.win.halfPending = s.win.halfPending
    ∧ t.win.bits = s.win.bits ∧ t.win.demodErrs = s.win.demodErrs
    ∧ (s.win.isOpen = true → t.win.firstT = s.win.firstT ∧ t.win.prevT = s.win.prevT ∧ t.flags = s.flags)
    ∧ (s.win.halfPending = true → t.win.halfStart = s.win.halfStart)

end Sys2Proof.Machine
end

