-- ==== Sys2Proof/Certificates/Slice0/Obligations.lean ====
section
/-! DEFINITION. The statements for the provers. "Log entry n" is notes/assumptions/n.md. -/

open Sys2Proof Sys2Proof.Machine

/-! ### Encodings -/

/-- 30_encoding.md R47: an event word decodes from `K` alone, and every word decodes. -/
def Obligations.EventsDecodeFromTheirKind : Prop :=
  ∀ w : BitVec 67,
    (w.extractLsb' 65 2 = 0b00#2 → decode (.event w) = .ok (.edge (w.extractLsb' 0 64) (w.getLsbD 64)))
      ∧ (w.extractLsb' 65 2 = 0b01#2 → decode (.event w) = .ok (.tick (w.extractLsb' 0 64)))
      ∧ (w.extractLsb' 65 2 = 0b10#2 → decode (.event w) = .ok .eos)
      ∧ (w.extractLsb' 65 2 = 0b11#2 → decode (.event w) = .ok .rsvd)

/-- Words written out from 30_encoding.md R46 and R48, 42_symbol_mapper.md R81 and 43_frame_sync.md R84
decode to the instructions they stand for. -/
def Obligations.WordsWrittenOutDecode : Prop :=
  decode (.event 0b00_1_0000000000000000000000000000000000000000000000000000001111101000#67)
      = .ok (.edge 1000 true)
    ∧ decode (.event 0b01_0_0000000000000000000000000000000000000000000000000001001010101101#67)
      = .ok (.tick 4781)
    ∧ decode (.event 0b10_0_0000000000000000000000000000000000000000000000000000000000000000#67) = .ok .eos
    ∧ decode (.event 0b11_1_0000000000000000000000000000000000000000000000000000000000000111#67) = .ok .rsvd
    ∧ decode (.access 1#1 2#64 30#64) = .ok (.cfgw 2 30)
    ∧ decode (.access 0#1 6#64 0#64) = .ok (.cfgr 6)
    ∧ decode (.codeGroup 0b11110#5) = .ok .code1EData0
    ∧ decode (.codeGroup 0b01101#5) = .ok .code0DEop
    ∧ decode (.codeGroup 0b11000#5) = .ok .code18Sync1
    ∧ decode (.candidate 0b10001_11000_11000_11000#20) = .ok .sopk0Sop
    ∧ decode (.candidate 0b11001_00111_00111_00111#20) = .ok .sopk6HardReset

/-- Decode and encode agree, for every instruction with every operand. -/
def Obligations.DecodeOfEncodeIsIdentity : Prop :=
  ∀ i : Instr, i.wf = true → decode (encode i) = .ok i

/-- A word that decodes is the encoding of its instruction but for the fields 30_encoding.md R47 and
40_input_events.md R61 call ignored, which the encoder writes as 0 (log entry 12). -/
def Obligations.EncodeOfDecodeClearsIgnoredFields : Prop :=
  ∀ (w : PortWord) (i : Instr), decode w = .ok i → encode i = ignoredFieldsCleared w

/-! ### The step -/

/-- A step runs the instruction that the oldest presented word decodes to, on the state that has taken the
word; it takes the reset input in the same way, and with nothing presented it waits. That inputs stand in
`pending` is the model's choice (log entry 2). -/
def Obligations.StepRunsTheDecodedInstruction : Prop :=
  (∀ (s : State) (w : PortWord) (rest : List Input) (i : Instr),
      s.pending = .word w :: rest → i.wf = true → decode w = .ok i →
        step s = exec i { s with pending := rest })
    ∧ (∀ (s : State) (rest : List Input), s.pending = .reset :: rest →
        step s = .next (doReset { s with pending := rest }))
    ∧ (∀ s : State, s.pending = [] → step s = .next s)
    ∧ (∀ (s : State) (nbits w : Nat) (i : Instr), decodeTableWord nbits w = some i →
        step (s.withFetchWord nbits w) = exec i s)

/-- 70_reset_and_hazards.md R149: what the reset input does, from every state. -/
def Obligations.ResetSetsEveryPieceOfState : Prop :=
  ∀ s : State,
    (doReset s).cfg.sampleRate = 0 ∧ (doReset s).cfg.thrShortMin = 1 ∧ (doReset s).cfg.thrSplit = 0
      ∧ (doReset s).cfg.thrLongMax = 0 ∧ (doReset s).cfg.thrIdle = 0 ∧ (doReset s).cfg.sopMinMatch = 3
      ∧ (doReset s).cfg.rawdumpEn = false
      ∧ (doReset s).status = ⟨false, false, false, false, false⟩ ∧ statusWord (doReset s) = 0
      ∧ (doReset s).phase = .demodulating ∧ (doReset s).win.isOpen = false ∧ (doReset s).win.level = none
      ∧ (doReset s).win.halfPending = false ∧ (doReset s).win.bits = [] ∧ (doReset s).win.demodErrs = []
      ∧ (doReset s).out = s.out

/-- 10_state.md R34: the values reset leaves, where it states one. -/
def Obligations.ResetLeavesTheStatedValues : Prop :=
  State.reset.cfg.sampleRate = 0 ∧ State.reset.cfg.thrShortMin = 1 ∧ State.reset.cfg.thrSplit = 0
    ∧ State.reset.cfg.thrLongMax = 0 ∧ State.reset.cfg.thrIdle = 0 ∧ State.reset.cfg.sopMinMatch = 3
    ∧ State.reset.cfg.rawdumpEn = false ∧ statusWord State.reset = 0
    ∧ State.reset.phase = .demodulating ∧ State.reset.win.isOpen = false ∧ State.reset.win.level = none
    ∧ State.reset.win.halfPending = false ∧ State.reset.win.bits = [] ∧ State.reset.win.demodErrs = []
    ∧ outSinceReset State.reset = []

/-! ### Invariants -/

/-- The invariant holds right after reset. That the parser registers are then cleared, a clause of the
invariant, is the model's choice: 10_state.md R34 leaves them unspecified (log entry 5; their cleared value,
log entry 6). -/
def Obligations.InvariantHoldsAtReset : Prop := State.reset.Inv

/-- Every step keeps the invariant. Its clause on the parser registers rests on the model's choices: what a
close and EOS leave in them (log entry 6) and what the reset input leaves in them (log entry 5). -/
def Obligations.InvariantKeptByEveryStep : Prop :=
  ∀ s t : State, s.Inv → step s = .next t → t.Inv

/-- 30_encoding.md R55: every record ever emitted has `start <= end`. -/
def Obligations.RecordRangesStayOrdered : Prop :=
  ∀ s t : State, s.Inv → s.RangesOrdered → step s = .next t → t.RangesOrdered

/-- 10_state.md R31: the output only grows; a reset retracts nothing, and after it nothing has been emitted
since reset. -/
def Obligations.OutputIsAppendOnly : Prop :=
  (∀ (i : Instr) (s t : State), exec i s = .next t → s.out <+: t.out)
    ∧ (∀ s : State, (doReset s).out = s.out ∧ outSinceReset (doReset s) = [])
    ∧ ∀ (i : Instr) (s t : State), s.outBase ≤ s.out.length → exec i s = .next t →
        outSinceReset s <+: outSinceReset t

/-- 20_memory.md R44: no event, register write or rule writes a table, nor any other build-time parameter;
nor does reset. -/
def Obligations.BuildParametersNeverChange : Prop :=
  (∀ (i : Instr) (s t : State), exec i s = .next t → t.build = s.build) ∧ ∀ s, (doReset s).build = s.build

/-- 60_exceptions.md R141: no instruction clears FATAL, nor STARTED or a sticky bit; reset clears them and
restores every configuration register. -/
def Obligations.OnlyResetClearsStatusBits : Prop :=
  (∀ (i : Instr) (s t : State), exec i s = .next t →
      (s.status.started = true → t.status.started = true)
        ∧ (s.status.fatal = true → t.status.fatal = true)
        ∧ (s.status.inputErr = true → t.status.inputErr = true)
        ∧ (s.status.badev = true → t.status.badev = true)
        ∧ (s.status.overflow = true → t.status.overflow = true))
    ∧ ∀ s : State, (doReset s).status = ⟨false, false, false, false, false⟩
        ∧ (doReset s).cfg = ⟨0, 1, 0, 0, 0, 3, false⟩

/-! ### Configuration -/

/-- 10_state.md R19: when the configuration is valid. -/
def Obligations.ConfigurationIsValidExactlyWhen : Prop :=
  ∀ c : CfgRegs, cfgValid c = true ↔
    1 ≤ c.sampleRate.toNat ∧ 1 ≤ c.thrShortMin.toNat ∧ c.thrShortMin.toNat ≤ c.thrSplit.toNat
      ∧ c.thrSplit.toNat < c.thrLongMax.toNat ∧ c.thrLongMax.toNat ≤ c.thrIdle.toNat
      ∧ 1 ≤ c.sopMinMatch.toNat ∧ c.sopMinMatch.toNat ≤ 4

/-- 40_input_events.md R60: CFGW, at every address, before and after the lock. -/
def Obligations.CfgwWritesTheNamedRegister : Prop :=
  ∀ (s : State) (v : Reg),
    (∀ a, s.status.started = true → exec (.cfgw a v) s = .next s)
      ∧ (s.status.started = false → s.WritesByAddress v)

/-- 40_input_events.md R61: CFGR, at every address; nothing but the returned value changes. STATUS.PHASE
reads 0 in every state a run reaches. The field `rdata` is where the model puts the returned value (log
entry 3). -/
def Obligations.CfgrReturnsTheNamedRegister : Prop :=
  ∀ s : State, s.ReadsByAddress ∧ (s.Inv → (phaseCode s.phase).toNat = 0)

/-- 10_state.md R20: while STARTED is 1 no instruction changes a configuration register and none clears
STARTED, and reads still return the held values. -/
def Obligations.ConfigurationIsLockedOnceStarted : Prop :=
  ∀ s t : State, s.status.started = true →
    (∀ i, exec i s = .next t → t.cfg = s.cfg ∧ t.status.started = true)
      ∧ (exec (.cfgr 0) s = .next t → t.rdata = s.cfg.sampleRate)
      ∧ (exec (.cfgr 1) s = .next t → t.rdata = s.cfg.thrShortMin)
      ∧ (exec (.cfgr 2) s = .next t → t.rdata = s.cfg.thrSplit)
      ∧ (exec (.cfgr 3) s = .next t → t.rdata = s.cfg.thrLongMax)
      ∧ (exec (.cfgr 4) s = .next t → t.rdata = s.cfg.thrIdle)
      ∧ (exec (.cfgr 5) s = .next t →
          t.rdata.extractLsb' 0 3 = s.cfg.sopMinMatch ∧ t.rdata.getLsbD 3 = s.cfg.rawdumpEn)

/-! ### The start check and the fatal stop -/

/-- 40_input_events.md R66: the first EDGE or TICK runs the start check; it passes and the event is then
processed by a started block, or it fails and the event is dropped in the fatal stop. -/
def Obligations.StartCheckDecides : Prop :=
  ∀ (s : State) (t : Sample) (l : Bool), s.status.fatal = false → s.status.started = false →
    (cfgValid s.cfg = true →
        exec (.edge t l) s = exec (.edge t l) { s with status := { s.status with started := true } }
          ∧ exec (.tick t) s = exec (.tick t) { s with status := { s.status with started := true } })
      ∧ (cfgValid s.cfg = false → ∀ i, i = .edge t l ∨ i = .tick t →
          exec i s = .next { s with
            status := { s.status with fatal := true }, out := s.out ++ [⟨t, t, .fatal 1⟩] })

/-- 60_exceptions.md R140: in the fatal stop every input event is dropped with no effect, accesses work at
every address, and no instruction emits a record or leaves the stop. -/
def Obligations.FatalStopIsEnteredAndHolds : Prop :=
  (∀ (s : State) (i : Instr) (t : Sample), EntersFatal i t s →
      exec i s = .next { s with
        status := { s.status with fatal := true }, out := s.out ++ [⟨t, t, .fatal 1⟩] })
    ∧ (∀ s : State, s.status.fatal = true →
        (∀ t l, exec (.edge t l) s = .next s) ∧ (∀ t, exec (.tick t) s = .next s)
          ∧ exec .eos s = .next s ∧ exec .rsvd s = .next s)
    ∧ (∀ (s t : State) (i : Instr), s.status.fatal = true → exec i s = .next t →
        t.status = s.status ∧ t.out = s.out ∧ t.win = s.win)
    ∧ ∀ (s : State) (v : Reg), s.Inv → s.status.fatal = true → s.WritesByAddress v ∧ s.ReadsByAddress

/-! ### Input events -/

/-- 40_input_events.md R65: the reserved event sets STATUS.BADEV and nothing else. -/
def Obligations.ReservedEventSetsBadev : Prop :=
  ∀ s : State,
    (s.status.fatal = true → exec .rsvd s = .next s)
      ∧ (s.status.fatal = false →
          exec .rsvd s = .next { s with status := { s.status with badev := true } })

/-- 40_input_events.md R64: EOS drops the open window with no record, and changes nothing when none is
open. The invariant rules out states with something of a closed window left. That `first_t`, `prev_t`,
`half_start` and the frame flags keep their values after the window has ended is the model's choice (log
entry 7), and that the parser registers, clear while the window is open, stay so (log entry 6). -/
def Obligations.EosDropsTheWindow : Prop :=
  ∀ s : State, s.Inv →
    (s.status.fatal = true → exec .eos s = .next s)
      ∧ (s.status.fatal = false → exec .eos s = .next { s with win := { s.win with
            isOpen := false, halfPending := false, bits := [], demodErrs := [], level := none } })
      ∧ (s.win.isOpen = false → exec .eos s = .next s)

/-- 41_bit_recovery.md R67: an edge record that repeats the line's level is dropped with no state change. -/
def Obligations.SameLevelEdgeIsDropped : Prop :=
  ∀ (s : State) (t : Sample) (l : Bool), s.status.started = true → s.win.level = some l →
    exec (.edge t l) s = .next s

/-- 41_bit_recovery.md R69: a qualifying edge with no window open opens one and emits no bit.
R69 is the spec's own inference (from R67 and 10_state.md R23). That `half_start`, unspecified from here on
(10_state.md R25), keeps its value is the model's choice (log entry 7). -/
def Obligations.FirstEdgeOpensAWindow : Prop :=
  ∀ (s : State) (t : Sample) (l : Bool), s.status.fatal = false → s.status.started = true →
    s.win.level ≠ some l → s.win.isOpen = false →
      exec (.edge t l) s = .next { s with
        win := { s.win with isOpen := true, firstT := t, prevT := t, level := some l, halfPending := false,
                            bits := [], demodErrs := [] }
        flags := ⟨false, false, false, false, false⟩
        phase := .demodulating }

/-- 41_bit_recovery.md R68 and 60_exceptions.md R134: a qualifying edge not after `prev_t` and a TICK
before it are dropped, and STATUS.INPUT_ERR is set. -/
def Obligations.InputOutOfOrderIsDropped : Prop :=
  ∀ (s : State) (t : Sample), s.Decoding →
    (∀ l, s.win.level ≠ some l → t ≤ s.win.prevT →
        exec (.edge t l) s = .next { s with status := { s.status with inputErr := true } })
      ∧ (t < s.win.prevT →
        exec (.tick t) s = .next { s with status := { s.status with inputErr := true } })

/-- 40_input_events.md R63: TICK, line by line. -/
def Obligations.TickTakesItsPseudocode : Prop :=
  ∀ (s : State) (t : Sample),
    (s.status.fatal = true → exec (.tick t) s = .next s)
      ∧ (EntersFatal (.tick t) t s → exec (.tick t) s = .next (enterFatal t s))
      ∧ (s.status.fatal = false → s.status.started = false → cfgValid s.cfg = true →
          exec (.tick t) s = exec (.tick t) { s with status := { s.status with started := true } })
      ∧ (s.status.fatal = false → s.status.started = true → s.win.isOpen = false →
          exec (.tick t) s = .next s)
      ∧ (s.Decoding → t.toNat < s.win.prevT.toNat →
          exec (.tick t) s = .next { s with status := { s.status with inputErr := true } })
      ∧ (s.Decoding → s.win.prevT.toNat + s.cfg.thrIdle.toNat < t.toNat →
          exec (.tick t) s = .next { closeWindow s with
            win := { (closeWindow s).win with level := none } })
      ∧ (s.Decoding → s.win.prevT.toNat ≤ t.toNat → t.toNat ≤ s.win.prevT.toNat + s.cfg.thrIdle.toNat →
          exec (.tick t) s = .next s)

/-! ### Bit recovery -/

/-- 41_bit_recovery.md R70: under a valid configuration every gap is in exactly one class, the one the
rule's inequalities name (derived there from 10_state.md R19). -/
def Obligations.GapsFallInOneClass : Prop :=
  ∀ (c : CfgRegs) (g : Sample), cfgValid c = true →
    (gapClass c g = .idle ↔ c.thrIdle < g)
      ∧ (gapClass c g = .badLow ↔ g < c.thrShortMin)
      ∧ (gapClass c g = .short ↔ c.thrShortMin ≤ g ∧ g ≤ c.thrSplit)
      ∧ (gapClass c g = .long ↔ c.thrSplit < g ∧ g ≤ c.thrLongMax)
      ∧ (gapClass c g = .badHigh ↔ c.thrLongMax < g ∧ g ≤ c.thrIdle)

/-- 41_bit_recovery.md R72: a SHORT gap with no half pending is the first half of a "1". -/
def Obligations.FirstHalfOfAOne : Prop :=
  ∀ (s : State) (t : Sample) (l : Bool), s.TimedEdge t l → s.cfg.thrShortMin ≤ t - s.win.prevT →
    t - s.win.prevT ≤ s.cfg.thrSplit → s.win.halfPending = false →
      exec (.edge t l) s = .next { s with win := { s.win with
        halfPending := true, halfStart := s.win.prevT, prevT := t, level := some l } }

/-- 41_bit_recovery.md R73: a SHORT gap with a half pending completes a "1" over both halves.
That `half_start`, unspecified once no half is pending (10_state.md R25), keeps its value is the
model's choice (log entry 7). -/
def Obligations.SecondHalfOfAOne : Prop :=
  ∀ (s : State) (t : Sample) (l : Bool), s.TimedEdge t l → s.cfg.thrShortMin ≤ t - s.win.prevT →
    t - s.win.prevT ≤ s.cfg.thrSplit → s.win.halfPending = true →
    (∀ c, s.build.bitCapacity = some c → nbits s < c) →
      exec (.edge t l) s = .next { s with win := { s.win with
        halfPending := false, bits := s.win.bits ++ [⟨true, s.win.halfStart, t⟩],
        prevT := t, level := some l } }

/-- 41_bit_recovery.md R74 and R75: a LONG gap is a "0" over the gap; with a half pending it is also a
DemodulationError over the orphan half and the gap, and the half is dropped.
That `half_start`, unspecified with no half pending (10_state.md R25), keeps its value is the model's
choice (log entry 7). -/
def Obligations.LongGapIsAZero : Prop :=
  ∀ (s : State) (t : Sample) (l : Bool), s.TimedEdge t l → s.cfg.thrShortMin ≤ t - s.win.prevT →
    s.cfg.thrSplit < t - s.win.prevT → t - s.win.prevT ≤ s.cfg.thrLongMax →
    (∀ c, s.build.bitCapacity = some c → nbits s < c) →
      (s.win.halfPending = false →
        exec (.edge t l) s = .next { s with win := { s.win with
          bits := s.win.bits ++ [⟨false, s.win.prevT, t⟩], prevT := t, level := some l } })
        ∧ (s.win.halfPending = true →
        exec (.edge t l) s = .next { s with win := { s.win with
          demodErrs := s.win.demodErrs ++ [(s.win.halfStart, t)],
          bits := s.win.bits ++ [⟨false, s.win.prevT, t⟩],
          halfPending := false, prevT := t, level := some l } })

/-- 41_bit_recovery.md R76: a BAD_LOW or BAD_HIGH gap is exactly one DemodulationError, from the pending
half if there is one, and a best-effort "0".
That `half_start`, unspecified once no half is pending (10_state.md R25), keeps its value is the
model's choice (log entry 7). -/
def Obligations.BadGapIsABestEffortZero : Prop :=
  ∀ (s : State) (t : Sample) (l : Bool), s.TimedEdge t l → cfgValid s.cfg = true →
    (t - s.win.prevT < s.cfg.thrShortMin ∨ s.cfg.thrLongMax < t - s.win.prevT) →
    (∀ c, s.build.bitCapacity = some c → nbits s < c) →
      exec (.edge t l) s = .next { s with win := { s.win with
        demodErrs := s.win.demodErrs
          ++ [(if s.win.halfPending then s.win.halfStart else s.win.prevT, t)],
        bits := s.win.bits ++ [⟨false, s.win.prevT, t⟩],
        halfPending := false, prevT := t, level := some l } }

/-- 41_bit_recovery.md R79: with the buffer full, a timed edge does what it does with an unbounded buffer,
but that a bit it would append is discarded and `f_ovf` and STATUS.OVERFLOW are set; with an unbounded
buffer neither is ever set. -/
def Obligations.FullBufferDiscardsTheBit : Prop :=
  ∀ (s u : State) (t : Sample) (l : Bool), s.TimedEdge t l →
    exec (.edge t l) { s with build := { s.build with bitCapacity := none } } = .next u →
      u.flags = s.flags ∧ u.status = s.status
        ∧ ∀ c, s.build.bitCapacity = some c → c ≤ nbits s →
          exec (.edge t l) s = .next
            (if u.win.bits = s.win.bits then { u with build := s.build }
             else { u with
              build := s.build
              win := { u.win with bits := s.win.bits }
              flags := { s.flags with ovf := true }
              status := { s.status with overflow := true } })

/-- 41_bit_recovery.md R78: a half pending when the window closes or ends is dropped: every event that ends
the window does what it does with no half pending. -/
def Obligations.PendingHalfIsDropped : Prop :=
  ∀ (s : State) (i : Instr), ClosesWindow i s ∨ (i = .eos ∧ s.Decoding) →
    exec i s = exec i { s with win := { s.win with halfPending := false } }

/-- 30_encoding.md R59: bit recovery inverts the BMC encoding. The bits of a BMC expansion at a half-cell
between the thresholds come out as they went in, each over its own cell, with no error and no record. -/
def Obligations.BmcEncodingIsInverted : Prop :=
  ∀ (s : State) (t0 ui : Sample) (l0 : Bool) (bs : List Bool), s.Inv →
    s.status.fatal = false → s.status.started = true → s.win.isOpen = false →
    (∀ c, s.build.bitCapacity = some c → bs.length ≤ c) →
    s.cfg.thrShortMin ≤ ui → ui ≤ s.cfg.thrSplit →
    s.cfg.thrSplit.toNat < 2 * ui.toNat → 2 * ui.toNat ≤ s.cfg.thrLongMax.toNat →
    t0.toNat + 2 * bs.length * ui.toNat < 2 ^ 64 →
      ∃ u, runInstrs (bmc t0 ui l0 bs) s = .next u
        ∧ u.win.isOpen = true ∧ u.win.firstT = t0 ∧ u.win.prevT.toNat = t0.toNat + 2 * bs.length * ui.toNat
        ∧ u.win.level = some (bmcLevel l0 bs) ∧ u.win.halfPending = false
        ∧ u.win.bits = bmcRecords ui t0 bs ∧ u.win.demodErrs = []
        ∧ u = { s with win := u.win, flags := ⟨false, false, false, false, false⟩ }

/-! ### The symbol mapper -/

/-- 42_symbol_mapper.md R81 and R83: the default CODE_TABLE entry by entry, and its properties: total; a data
code for each nibble, and one only; leading, trailing and inner zeros of data codes, and no run of more than
three zeros in any sequence of data codes, where SYNC-1 starts with three; all zeros and all ones are ERROR.
The properties are the spec's own inference from the table (R83: derived from R81). -/
def Obligations.CodeTableIsTheStatedOne : Prop :=
  (List.range 32).map (fun c => symCode (codeSym State.reset.build (BitVec.ofNat 5 c))) =
      [0x10, 0x10, 0x10, 0x10, 0x10, 0x10, 0x13, 0x14, 0x10, 0x01, 0x04, 0x05, 0x10, 0x16, 0x06, 0x07,
       0x10, 0x12, 0x08, 0x09, 0x02, 0x03, 0x0A, 0x0B, 0x11, 0x15, 0x0C, 0x0D, 0x0E, 0x0F, 0x00, 0x10]
    ∧ defaultCodeTable.length = 32
    ∧ (∀ c c' : Code, symIsData (codeSym defaultBuild c) = true →
        codeSym defaultBuild c = codeSym defaultBuild c' → c = c')
    ∧ (∀ nib : BitVec 4, codeSym defaultBuild (codeOfSym defaultBuild (.data nib)) = .data nib)
    ∧ (∀ c : Code, symIsData (codeSym defaultBuild c) = true →
        ¬ [false, false, false] <:+: codeBits c ∧ ¬ [false, false] <:+ codeBits c)
    ∧ (∀ nibs : List (BitVec 4),
        ¬ [false, false, false, false] <:+: symBits defaultBuild (nibs.map Sym.data))
    ∧ [false, false, false] <+: codeBits (codeOfSym defaultBuild .sync1)
    ∧ codeSym defaultBuild 0x00 = .error ∧ codeSym defaultBuild 0x1F = .error

/-- The CODE rows of the opcode table, each run as an instruction: it answers its row of 42_symbol_mapper.md
R81 and writes nothing else. That a row can be run, and where its answer stands, are the model's choices
(log entries 1 and 3). -/
def Obligations.CodeRowsAnswerTheirSymbol : Prop :=
  ∀ s : State, s.build.codeTable = defaultCodeTable →
    ∀ e ∈ [(Instr.code00Error, 0x00#5, 0x10#5), (.code01Error, 0x01#5, 0x10#5),
        (.code02Error, 0x02#5, 0x10#5), (.code03Error, 0x03#5, 0x10#5), (.code04Error, 0x04#5, 0x10#5),
        (.code05Error, 0x05#5, 0x10#5), (.code06Sync3, 0x06#5, 0x13#5), (.code07Rst1, 0x07#5, 0x14#5),
        (.code08Error, 0x08#5, 0x10#5), (.code09Data1, 0x09#5, 0x01#5), (.code0AData4, 0x0A#5, 0x04#5),
        (.code0BData5, 0x0B#5, 0x05#5), (.code0CError, 0x0C#5, 0x10#5), (.code0DEop, 0x0D#5, 0x16#5),
        (.code0EData6, 0x0E#5, 0x06#5), (.code0FData7, 0x0F#5, 0x07#5), (.code10Error, 0x10#5, 0x10#5),
        (.code11Sync2, 0x11#5, 0x12#5), (.code12Data8, 0x12#5, 0x08#5), (.code13Data9, 0x13#5, 0x09#5),
        (.code14Data2, 0x14#5, 0x02#5), (.code15Data3, 0x15#5, 0x03#5), (.code16DataA, 0x16#5, 0x0A#5),
        (.code17DataB, 0x17#5, 0x0B#5), (.code18Sync1, 0x18#5, 0x11#5), (.code19Rst2, 0x19#5, 0x15#5),
        (.code1ADataC, 0x1A#5, 0x0C#5), (.code1BDataD, 0x1B#5, 0x0D#5), (.code1CDataE, 0x1C#5, 0x0E#5),
        (.code1DDataF, 0x1D#5, 0x0F#5), (.code1EData0, 0x1E#5, 0x00#5), (.code1FError, 0x1F#5, 0x10#5)],
      exec e.1 s = .next { s with symdecOut := ⟨e.2.1, e.2.2⟩ }

/-! ### The frame synchronizer -/

/-- 43_frame_sync.md R84: the default SOP_TABLE: kinds in row order, classes, 20-bit patterns, distances.
The distances are the spec's own inference from the table. -/
def Obligations.FrameStartTableIsTheStatedOne : Prop :=
  defaultSopTable.map SopRow.kind = [0, 1, 2, 3, 4, 5, 6]
    ∧ defaultSopTable.map (fun r => sopClass r.kind)
      = [.ordinary, .extended, .extended, .extended, .extended, .reset, .reset]
    ∧ defaultSopTable.map (rowPattern defaultBuild)
      = [0x8E318, 0x31B18, 0x360D8, 0x36738, 0x89B38, 0x31F07, 0xC9CE7]
    ∧ defaultSopTable.map (fun r => defaultSopTable.map (rowDistance r))
      = [[0, 2, 2, 3, 2, 3, 4],
         [2, 0, 2, 2, 2, 2, 4],
         [2, 2, 0, 2, 3, 3, 4],
         [3, 2, 2, 0, 2, 3, 4],
         [2, 2, 3, 2, 0, 4, 4],
         [3, 2, 3, 3, 4, 0, 2],
         [4, 4, 4, 4, 4, 2, 0]]

/-- The SOPK rows of the opcode table, each run as an instruction: CHOOSE answers the row itself with 4
matches, at every threshold (43_frame_sync.md R87), and nothing else is written. That a row can be run, and
where its answer stands, are the model's choices (log entries 1 and 3). -/
def Obligations.FrameStartRowsChooseThemselves : Prop :=
  ∀ s : State, s.build.codeTable = defaultCodeTable → s.build.sopTable = defaultSopTable →
    exec .sopk0Sop s = .next { s with chooseOut := some ⟨0, .ordinary, 4⟩ }
      ∧ exec .sopk1Sop1 s = .next { s with chooseOut := some ⟨1, .extended, 4⟩ }
      ∧ exec .sopk2Sop2 s = .next { s with chooseOut := some ⟨2, .extended, 4⟩ }
      ∧ exec .sopk3Sop1Debug s = .next { s with chooseOut := some ⟨3, .extended, 4⟩ }
      ∧ exec .sopk4Sop2Debug s = .next { s with chooseOut := some ⟨4, .extended, 4⟩ }
      ∧ exec .sopk5CableReset s = .next { s with chooseOut := some ⟨5, .reset, 4⟩ }
      ∧ exec .sopk6HardReset s = .next { s with chooseOut := some ⟨6, .reset, 4⟩ }

/-- 43_frame_sync.md R87: CHOOSE takes the least row that matches exactly, else the least row with at least
SOP_MIN_MATCH matches, else none; with the default tables and a threshold of 3 or 4 the exact-first step
never changes the result, since an exact match excludes a 3-of-4 match with another row. -/
def Obligations.ChooseTakesExactThenLeastRow : Prop :=
  ∀ (b : Build) (k : BitVec 3) (p : Candidate),
    (∀ n (hn : n < b.sopTable.length), rowMatches b p b.sopTable[n] = 4 →
        (∀ m (hm : m < n), rowMatches b p (b.sopTable[m]'(by omega)) ≠ 4) →
          choose b k p = some b.sopTable[n])
      ∧ (∀ n (hn : n < b.sopTable.length), (∀ r ∈ b.sopTable, rowMatches b p r ≠ 4) →
          k.toNat ≤ rowMatches b p b.sopTable[n] →
          (∀ m (hm : m < n), rowMatches b p (b.sopTable[m]'(by omega)) < k.toNat) →
            choose b k p = some b.sopTable[n])
      ∧ ((∀ r ∈ b.sopTable, rowMatches b p r ≠ 4 ∧ rowMatches b p r < k.toNat) → choose b k p = none)
      ∧ (b.codeTable = defaultCodeTable → b.sopTable = defaultSopTable → 3 ≤ k.toNat → k.toNat ≤ 4 →
          (choose b k p = b.sopTable.find? fun r => decide (k.toNat ≤ rowMatches b p r))
            ∧ ∀ r ∈ b.sopTable, ∀ r' ∈ b.sopTable, rowMatches b p r = 4 → 3 ≤ rowMatches b p r' → r = r')
      ∧ ((∃ r ∈ b.sopTable, k.toNat ≤ rowMatches b p r) → choose b k p ≠ none)

/-- 43_frame_sync.md R86: every bit offset with 20 bits left is tried and the lowest accepted one wins; with
fewer than 20 bits there is none. Acceptance writes the offset, the row's index (log entry 9 says what it
writes when a build's table is another) and its match count, and nothing else. -/
def Obligations.LowestAcceptedOffsetWins : Prop :=
  ∀ s : State,
    (∀ h, syncScan s = some h ↔
        h.off + 20 ≤ nbits s ∧ chooseAt s h.off = some h.row ∧ ∀ j < h.off, chooseAt s j = none)
      ∧ (syncScan s = none ↔ ∀ i, i + 20 ≤ nbits s → chooseAt s i = none)
      ∧ ∀ h, syncScan s = some h →
          (∃ k m, acceptHit h s = { s with par := { s.par with sopOff := h.off, sopKind := k, sopMatches := m } }
            ∧ m.toNat = rowMatches s.build (candidateAt s h.off) h.row
            ∧ (s.build.sopTable = defaultSopTable → defaultSopTable[k.toNat]? = some h.row))

/-! ### Closing a window -/

/-- What a close leaves besides its records: the window's state gone, everything that outlives a window as
it was (10_state.md R33). That the parser registers then hold 0 is the model's reading of "clears" (log
entry 6). -/
def Obligations.CloseKeepsWhatOutlivesTheWindow : Prop :=
  ∀ (s : State) (i : Instr), ClosesWindow i s →
    ∃ t, exec i s = .next t ∧ t.build = s.build ∧ t.cfg = s.cfg ∧ t.status = s.status
      ∧ t.outBase = s.outBase ∧ t.rdata = s.rdata ∧ t.symdecOut = s.symdecOut ∧ t.chooseOut = s.chooseOut
      ∧ t.pending = s.pending ∧ t.phase = .demodulating ∧ t.par = ParserRegs.cleared
      ∧ t.win.halfPending = false ∧ t.win.bits = [] ∧ t.win.demodErrs = []
      ∧ (∀ T, i = .tick T → t.win.isOpen = false ∧ t.win.level = none)
      ∧ (∀ T l, i = .edge T l →
          t.win.isOpen = true ∧ t.win.level = some l ∧ t.win.firstT = T ∧ t.win.prevT = T
            ∧ t.flags = ⟨false, false, false, false, false⟩)

/-- 41_bit_recovery.md R71: an edge beyond the idle limit does what a TICK at its sample index and then the
edge itself do: close, then open. -/
def Obligations.IdleEdgeIsTickThenEdge : Prop :=
  ∀ (s : State) (t : Sample) (l : Bool), ClosesWindow (.edge t l) s →
    exec (.edge t l) s = .next (openWindow t l (closeWindow s))
      ∧ exec (.tick t) s = .next { closeWindow s with win := { (closeWindow s).win with level := none } }
      ∧ exec (.edge t l) s = runInstrs [.tick t, .edge t l] s

/-- 46_window_output.md R112: a window in which no candidate reaches the threshold yields its warnings, one
JUNK record and one SyncNotFound over its edge span, and RAWBITS if enabled. -/
def Obligations.JunkWindowIsReported : Prop :=
  ∀ (s : State) (i : Instr), s.Inv → ClosesWindow i s →
    (∀ k, k + 20 ≤ nbits s → ∀ r ∈ s.build.sopTable,
        rowMatches s.build (candidateAt s k) r < s.cfg.sopMinMatch.toNat) →
      ∃ t, exec i s = .next t
        ∧ t.out = s.out ++ windowWarnings s
          ++ [⟨s.win.firstT, s.win.prevT, .junk (nbits s) s.flags.ovf⟩,
              ⟨s.win.firstT, s.win.prevT, .warning 2 15 0 0 0⟩]
          ++ rawRecords s

/-- 46_window_output.md R113: a window whose lowest accepted candidate is a reset row yields its warnings,
one RESET record over the candidate's 20 bits, and RAWBITS if enabled. That it reports the row's own kind code,
where R29 has the row index, is the model's reading, and shows only with a SOP_TABLE other than the default (log
entry 9). -/
def Obligations.ResetWindowIsReported : Prop :=
  ∀ (s : State) (i : Instr) (k : Nat) (r : SopRow), s.Inv → ClosesWindow i s →
    k + 20 ≤ nbits s → (∀ j < k, chooseAt s j = none) → chooseAt s k = some r →
    (r.kind = 5 ∨ r.kind = 6) →
      ∃ t, exec i s = .next t
        ∧ t.out = s.out ++ windowWarnings s
          ++ [⟨bitStart s k, bitEnd s (k + 19),
              .reset r.kind (BitVec.ofNat 3 (rowMatches s.build (candidateAt s k) r)) (nbits s)⟩]
          ++ rawRecords s

/-- 46_window_output.md R123: every closed window yields exactly one terminal record, of the kind its scan
decides; a window dropped by EOS yields nothing.
R123 is the spec's own inference (from R110 and R112 to R114). That a row's class is read from its kind code
is the model's reading, which shows only with a SOP_TABLE other than the default (log entry 9). -/
def Obligations.EveryClosedWindowHasOneTerminalRecord : Prop :=
  (∀ (s : State) (i : Instr), ClosesWindow i s →
      ∃ t rs, exec i s = .next t ∧ t.out = s.out ++ rs
        ∧ (rs.filter isTerminal).map recordTag = [terminalTag s])
    ∧ ∀ s t : State, exec .eos s = .next t → t.out = s.out

/-- 70_reset_and_hazards.md R158: an instruction that closes no window emits no record, but for the FATAL
record of the start check.
R158 is the spec's own inference (from 46_window_output.md R110 and 20_memory.md R43). -/
def Obligations.NoRecordBetweenCloses : Prop :=
  ∀ (s t : State) (i : Instr), s.Inv → exec i s = .next t → ¬ ClosesWindow i s →
    t.out = s.out ∨ ∃ T, EntersFatal i T s ∧ t.out = s.out ++ [⟨T, T, .fatal 1⟩]

/-- A frame is valid exactly when none of its flags is set (46_window_output.md R119). Each flag is set exactly
when the window's records hold the warning that sets it (60_exceptions.md R129 to R133, 45_checksum.md R105),
and `demod_errs` counts the DemodulationErrors (46_window_output.md R118). That the flags and the warnings agree
over a whole close is put together from these rules; no one rule states it. -/
def Obligations.FrameFlagsTellItsWarnings : Prop :=
  ∀ (s t : State) (i : Instr) (rs : List Record) (r : Record) (f : FrameBody), s.Inv →
    exec i s = .next t → t.out = s.out ++ rs → r ∈ rs → r.body = .frame f →
      f.valid = !(f.fTrunc || f.fBadsym || f.fCrc || f.fNoeop || f.fOvf)
        ∧ f.fTrunc = rs.any (isWarning .truncatedFrame)
        ∧ f.fBadsym = rs.any (isWarning .badSymbol)
        ∧ f.fCrc = rs.any (isWarning .checksumMismatch)
        ∧ f.fNoeop = rs.any (isWarning .missingTerminator)
        ∧ f.fOvf = rs.any (isWarning .bufferOverflow)
        ∧ f.demodErrs = rs.countP (isWarning .demodulationError)

/-- 46_window_output.md R120: on the frame path FRAME is followed by BITRATE over the same range, whose
value is the floor of the exact quotient and at most SAMPLE_RATE.
That the edge span is not empty and the rate at most SAMPLE_RATE is the spec's own inference (R120: derived
from 41_bit_recovery.md R77). -/
def Obligations.FrameIsFollowedByItsBitrate : Prop :=
  ∀ (s : State) (i : Instr), s.Inv → ClosesWindow i s → terminalTag s = 0x09 →
    ∃ (t : State) (rs a : List Record) (b : Sample × Sample) (f : FrameBody) (v : BitVec 64),
      exec i s = .next t ∧ t.out = s.out ++ rs
      ∧ rs = windowWarnings s ++ a ++ [⟨b.1, b.2, .frame f⟩, ⟨b.1, b.2, .bitrate v⟩] ++ rawRecords s
      ∧ f.nbits = nbits s ∧ s.win.firstT < s.win.prevT
      ∧ v.toNat = s.cfg.sampleRate.toNat * nbits s / (s.win.prevT.toNat - s.win.firstT.toNat)
      ∧ v ≤ s.cfg.sampleRate

/-- 46_window_output.md R121: the bytes of RAWBITS: bit k of the window is bit (k mod 8) of byte (k div 8),
and every other bit of the last byte is 0. -/
def Obligations.RawBytesPackTheBits : Prop :=
  ∀ m : Memory,
    (rawBytes m).length = (m.length + 7) / 8
      ∧ ∀ k (hk : k / 8 < (rawBytes m).length),
          ((rawBytes m)[k / 8]).getLsbD (k % 8) = ((m[k]?).map BitRecord.value).getD false

/-! ### The frame parser and the checksum -/

/-- 44_frame_parser.md R94: GROUP. It is truncated exactly when too few bits are left; otherwise it emits a
SYMBOL for each code group, each BadSymbol right after its own, its value has the symbols' nibbles least
significant first, and `idx` moves past it. -/
def Obligations.GroupsDecodeLeastNibbleFirst : Prop :=
  ∀ (s : State) (n : Nat) (g : BitVec 4), n = 4 ∨ n = 8 →
    (nbits s < s.par.idx + 5 * n → group n g s = (none, s))
      ∧ (s.par.idx + 5 * n ≤ nbits s →
          ∃ v t, group n g s = (some v, t)
            ∧ (∀ j < n, v.extractLsb' (4 * j) 4 = symNibble (symAt s (s.par.idx + 5 * j)))
            ∧ v.toNat < 2 ^ (4 * n)
            ∧ t = { s with
                par := { s.par with
                  idx := s.par.idx + 5 * n
                  crcNondata := s.par.crcNondata || (decide (g = groupTrailer)
                    && (List.range n).any fun j => !symIsData (symAt s (s.par.idx + 5 * j))) }
                flags := { s.flags with
                  badsym := s.flags.badsym
                    || (List.range n).any fun j => decide (symAt s (s.par.idx + 5 * j) = .error) }
                out := s.out ++ (List.range n).flatMap (symbolRecords s g s.par.idx) })

/-- 44_frame_parser.md R100: the terminator. With no bits left the range is the empty one of
46_window_output.md R122. -/
def Obligations.TerminatorIsChecked : Prop :=
  ∀ s : State,
    let k := s.par.idx
    let rng := bitSpan s k (k + 5)
    let rest := bitSpan s k (nbits s)
    let symbol : Record := ⟨rng.1, rng.2, .symbol (codeAt s k) (symCode (symAt s k)) 10 0⟩
    (k + 5 ≤ nbits s → symAt s k = .eop →
        parseTerminator s = { s with
          par := { s.par with idx := k + 5 }, out := s.out ++ [symbol, ⟨rng.1, rng.2, .eop⟩] })
      ∧ (k + 5 ≤ nbits s → symAt s k ≠ .eop →
        parseTerminator s = { s with
          flags := { s.flags with noeop := true }
          out := s.out ++ [symbol, ⟨rng.1, rng.2, .warning 6 10 0 0 0⟩] })
      ∧ (nbits s < k + 5 →
        parseTerminator s = { s with
          flags := { s.flags with noeop := true }
          out := s.out ++ [⟨rest.1, rest.2, .warning 6 10 0 0 0⟩] })

/-- 45_checksum.md R105: CHECK. A mismatch, or a non-data symbol in the trailer, sets `f_crc` and raises
ChecksumMismatch with the computed and the received value; no decoded field changes. -/
def Obligations.ChecksumIsCompared : Prop :=
  ∀ s : State,
    let crc := crc32 s.build.crcAlgo (ser s.par.hdr s.par.words)
    let rng := bitSpan s s.par.crcStart (min (s.par.crcStart + 40) (nbits s))
    (s.par.crcRx = crc → s.par.crcNondata = false →
        checkCrc s = { s with par := { s.par with crcCalc := crc } })
      ∧ (s.par.crcRx ≠ crc ∨ s.par.crcNondata = true →
        checkCrc s = { s with
          par := { s.par with crcCalc := crc }
          flags := { s.flags with crc := true }
          out := s.out ++ [⟨rng.1, rng.2, .warning 5 9 0 crc s.par.crcRx⟩] })

/-- The check values of 45_checksum.md R107 (a), (b), with the byte strings of its table. -/
def Obligations.CrcCheckValues : Prop :=
  crc32 defaultCrc [0x31, 0x32, 0x33, 0x34, 0x35, 0x36, 0x37, 0x38, 0x39] = 0xCBF43926
    ∧ crc32 defaultCrc [] = 0
    ∧ ser 0x2161 [0x0001912C, 0x9901912C] = [0x61, 0x21, 0x2C, 0x91, 0x01, 0x00, 0x2C, 0x91, 0x01, 0x99]
    ∧ crc32 defaultCrc (ser 0x0243 []) = 0x74836F15
    ∧ crc32 defaultCrc (ser 0x0240 []) = 0x5FAE3CD6
    ∧ crc32 defaultCrc (ser 0x2161 [0x0001912C, 0x9901912C]) = 0xE2E2900C
    ∧ crc32 defaultCrc (ser 0x2161 [0x0001912C, 0x0BAD0BAD]) = 0x5B307DF9
    ∧ crc32 defaultCrc (ser 0x0BAD []) = 0xCDA209D3
    ∧ crc32 defaultCrc (ser 0x0041 []) = 0xA8BB6CBB
    ∧ crc32 defaultCrc (ser 0x1042 [0x1000212C]) = 0x5D6EB173

/-- A frame whose header is cut off is still reported (44_frame_parser.md R95, 45_checksum.md R106): every
record of the close, for any sentinels, any checksum function, any frame start the scan accepts and any bits
left. With the default sentinels the header reads 0x0BAD, which declares no words, and its checksum is
0xCDA209D3. -/
def Obligations.TruncatedHeaderIsStillReported : Prop :=
  ∀ (s : State) (i : Instr) (k : Nat) (row : SopRow), s.Inv → ClosesWindow i s →
    s.build.sopTable = defaultSopTable →
    syncScan s = some ⟨k, row⟩ → sopClass row.kind ≠ .reset → nbits s < k + 40 →
      ∃ t, exec i s = .next t
        ∧ t.out = s.out ++ windowWarnings s ++ cutHeaderRecords s k row ++ rawRecords s
        ∧ (s.build.sentinel16 = 0x0BAD → s.build.sentinel32 = 0x0BAD0BAD → s.build.crcAlgo = defaultCrc →
            sentCount s.build.sentinel16 = 0 ∧ crc32 s.build.crcAlgo (ser s.build.sentinel16 []) = 0xCDA209D3)

/-- A frame cut off after an intact header is still reported. In a data word or in the trailer
(44_frame_parser.md R95, R98, R99): each group from the cut on is a sentinel record with its TruncatedFrame at
the same bit index, the checksum is compared all the same (45_checksum.md R106), and FRAME is invalid and ends
with the last whole group. In the terminator's five bits (R100): MissingTerminator over the bits left. `cut` is
how many bits the window holds after the frame start. -/
def Obligations.CutFrameIsStillReported : Prop :=
  ∀ (s : State) (i : Instr) (row : SopRow) (h : Header16) (words : List Word32) (crc : Word32)
    (pre start : List Bool) (cut : Nat),
    s.Inv → ClosesWindow i s → s.build.defaultTables → AcceptedStart s pre start row →
    words.length = sentCount h → 20 ≤ cut →
    s.win.bits.map BitRecord.value = pre ++ start ++ (symBits s.build (bodySyms h words crc)).take cut →
      (cut < 60 + 40 * words.length →
        ∃ t, exec i s = .next t
          ∧ t.out = s.out ++ windowWarnings s
            ++ cutFrameRecords s pre.length ((cut - 20) / 40) row h words crc ++ rawRecords s)
        ∧ (60 + 40 * words.length ≤ cut → cut < 65 + 40 * words.length →
          crc = crc32 s.build.crcAlgo (ser h words) →
            ∃ t, exec i s = .next t
              ∧ t.out = s.out ++ windowWarnings s
                ++ noTerminatorRecords s pre.length row h words crc ++ rawRecords s)

/-- A frame that arrives undamaged after its frame start is recovered, wherever in the window it stands
(46_window_output.md R125 (b), R114 to R118): every record of the close, with its body and range. The frame start
may be any that is accepted, with its match count (43_frame_sync.md R85, R87, R92); one that arrives as sent has
four matches. -/
def Obligations.UndamagedFrameIsRecovered : Prop :=
  ∀ (s : State) (i : Instr) (row : SopRow) (h : Header16) (words : List Word32) (crc : Word32)
    (pre start post : List Bool),
    s.Inv → ClosesWindow i s → s.build.defaultTables → AcceptedStart s pre start row →
    words.length = sentCount h → crc = crc32 s.build.crcAlgo (ser h words) →
    s.win.bits.map BitRecord.value = pre ++ start ++ symBits s.build (bodySyms h words crc) ++ post →
      (∃ t, exec i s = .next t
        ∧ t.out = s.out ++ windowWarnings s ++ cleanFrameRecords s pre.length row h words crc ++ rawRecords s)
        ∧ (start = symBits s.build (rowSyms row) → startMatches s pre.length row = 4)

/-- 45_checksum.md R107 (c): a frame that arrives with exactly one bit of its checksum trailer flipped gives
one ChecksumMismatch; every record but the trailer's and FRAME's checksum, BadSymbol and validity fields is that
of the frame sent. `rx` is the received value: the flipped symbol's nibble is what that symbol is worth, every
other that of the checksum. `k` counts from the end of the frame start. -/
def Obligations.FlippedTrailerBitIsCaught : Prop :=
  ∀ (s : State) (i : Instr) (row : SopRow) (h : Header16) (words : List Word32) (crc : Word32)
    (pre start post sent : List Bool) (k : Nat) (v : Bool),
    s.Inv → ClosesWindow i s → s.build.defaultTables → AcceptedStart s pre start row →
    words.length = sentCount h → crc = crc32 s.build.crcAlgo (ser h words) →
    sent = symBits s.build (bodySyms h words crc) →
    20 + 40 * words.length ≤ k → k < 60 + 40 * words.length → sent[k]? = some v →
    s.win.bits.map BitRecord.value = pre ++ start ++ sent.set k (!v) ++ post →
      let hit := symAt s (pre.length + 20 + 5 * (k / 5))
      ∃ t rx, exec i s = .next t
        ∧ t.out = s.out ++ windowWarnings s
          ++ badTrailerRecords s pre.length row h words crc rx (decide (hit = .error)) ++ rawRecords s
        ∧ ∀ j < 8, rx.extractLsb' (4 * j) 4 =
            if j = (k - 20 - 40 * words.length) / 5 then symNibble hit else crc.extractLsb' (4 * j) 4

/-- 46_window_output.md R125 (b), end to end: a frame sent in BMC after an alternating preamble of any
length, followed by an idle gap, is received as it was sent: every record of the close. `m` is the state
before the gap. -/
def Obligations.SentFramesAreReceived : Prop :=
  ∀ (s : State) (t0 ui d : Sample) (l0 p : Bool) (L : Nat) (row : SopRow) (h : Header16)
    (words : List Word32) (crc : Word32) (bs : List Bool), s.Inv →
    s.status.fatal = false → s.status.started = true → s.win.isOpen = false →
    s.build.defaultTables → s.build.bitCapacity = none → s.cfg.sopMinMatch = 3 →
    row ∈ defaultSopTable → sopClass row.kind ≠ .reset → words.length = sentCount h →
    crc = crc32 s.build.crcAlgo (ser h words) →
    bs = alternating p L ++ symBits s.build (frameSyms row h words crc) →
    s.cfg.thrShortMin ≤ ui → ui ≤ s.cfg.thrSplit →
    s.cfg.thrSplit.toNat < 2 * ui.toNat → 2 * ui.toNat ≤ s.cfg.thrLongMax.toNat →
    s.cfg.thrIdle < d → t0.toNat + 2 * bs.length * ui.toNat + d.toNat < 2 ^ 64 →
      ∃ m u, runInstrs (bmc t0 ui l0 bs) s = .next m
        ∧ m.win.bits = bmcRecords ui t0 bs ∧ m.win.firstT = t0 ∧ m.win.prevT = bmcEnd t0 ui bs.length
        ∧ m.win.demodErrs = [] ∧ m.flags.ovf = false ∧ m.cfg = s.cfg ∧ m.build = s.build
        ∧ runInstrs (bmc t0 ui l0 bs ++ [idleTick (bmcEnd t0 ui bs.length) d]) s = .next u
        ∧ u.out = s.out ++ cleanFrameRecords m L row h words crc ++ rawRecords m
        ∧ startMatches m L row = 4
        ∧ (bitSpan m L bs.length).1.toNat = t0.toNat + 2 * L * ui.toNat
        ∧ (bitSpan m L bs.length).2 = bmcEnd t0 ui bs.length
        ∧ u.win.isOpen = false

/-! ### What a run depends on -/

/-- No rule reads what 10_state.md R34 calls "unspecified, never read", nor the output: two states that agree
on the rest run every instruction to states that agree again, with the same records appended and the same
value returned to a read. -/
def Obligations.UnspecifiedRegistersAreNeverRead : Prop :=
  ∀ (i : Instr) (s t s' : State), s.AgreeOnRead t → exec i s = .next s' →
    ∃ t' rs, exec i t = .next t' ∧ s'.AgreeOnRead t'
      ∧ s'.out = s.out ++ rs ∧ t'.out = t.out ++ rs ∧ (∀ a, i = .cfgr a → t'.rdata = s'.rdata)

/-- 46_window_output.md R125 (a): the output since reset is a function of the instructions since reset. -/
def Obligations.SameEventsSameOutput : Prop :=
  ∀ (s t : State) (is : List Instr), s.build = t.build →
    ∃ s' t', runInstrs is (doReset s) = .next s' ∧ runInstrs is (doReset t) = .next t'
      ∧ outSinceReset s' = outSinceReset t'

/-! ### The host's side -/

/-- 00_scope.md R7: the default conversion of the real-valued options rounds as stated, whenever the results
fit their registers: `floor(3/2 x UI)`, `floor(idle x UI)`, and `min(4, max(1, ceil(4 x tolerance)))`. -/
def Obligations.HostConversionRoundsAsStated : Prop :=
  ∀ o : HostOptions, 0 < o.unitIntervalUs.den → 0 < o.sopMatchTolerance.den → 0 < o.idleTimeoutUi.den →
    optThrSplit o < 2 ^ 64 → optThrIdle o < 2 ^ 64 →
      let c := hostConfig o
      let uiNum := o.unitIntervalUs.num * o.sampleRate.toNat
      let uiDen := o.unitIntervalUs.den * 1000000
      c.sampleRate = o.sampleRate ∧ c.rawdumpEn = o.rawdumpEn ∧ c.thrShortMin = 1
        ∧ c.thrLongMax = c.thrIdle
        ∧ c.thrSplit.toNat * (2 * uiDen) ≤ 3 * uiNum ∧ 3 * uiNum < (c.thrSplit.toNat + 1) * (2 * uiDen)
        ∧ c.thrIdle.toNat * (o.idleTimeoutUi.den * uiDen) ≤ o.idleTimeoutUi.num * uiNum
        ∧ o.idleTimeoutUi.num * uiNum < (c.thrIdle.toNat + 1) * (o.idleTimeoutUi.den * uiDen)
        ∧ 1 ≤ c.sopMinMatch.toNat
        ∧ ∀ k, 1 ≤ k → (c.sopMinMatch.toNat ≤ k ↔
            4 ≤ k ∨ 4 * o.sopMatchTolerance.num ≤ k * o.sopMatchTolerance.den)
end

