-- ==== Sys2Proof/Laws/State.lean ====
section
/-! SUPPORT. One lemma per field per update, so that no proof unfolds a record update. -/

namespace Sys2Proof.Machine

/-! ### `emit` -/

@[simp] theorem emit_build (r : Record) (s : State) : (emit r s).build = s.build := rfl
@[simp] theorem emit_cfg (r : Record) (s : State) : (emit r s).cfg = s.cfg := rfl
@[simp] theorem emit_status (r : Record) (s : State) : (emit r s).status = s.status := rfl
@[simp] theorem emit_phase (r : Record) (s : State) : (emit r s).phase = s.phase := rfl
@[simp] theorem emit_win (r : Record) (s : State) : (emit r s).win = s.win := rfl
@[simp] theorem emit_par (r : Record) (s : State) : (emit r s).par = s.par := rfl
@[simp] theorem emit_flags (r : Record) (s : State) : (emit r s).flags = s.flags := rfl
@[simp] theorem emit_out (r : Record) (s : State) : (emit r s).out = s.out ++ [r] := rfl
@[simp] theorem emit_outBase (r : Record) (s : State) : (emit r s).outBase = s.outBase := rfl
@[simp] theorem emit_rdata (r : Record) (s : State) : (emit r s).rdata = s.rdata := rfl
@[simp] theorem emit_symdecOut (r : Record) (s : State) : (emit r s).symdecOut = s.symdecOut := rfl
@[simp] theorem emit_chooseOut (r : Record) (s : State) : (emit r s).chooseOut = s.chooseOut := rfl
@[simp] theorem emit_pending (r : Record) (s : State) : (emit r s).pending = s.pending := rfl

/-! ### `raise` -/

@[simp] theorem raise_build (d : Diagnostic) (g : BitVec 4) (p : BitVec 3) (e a : Word32) (rng : Sample × Sample) (s : State) :
    (raise d g p e a rng s).build = s.build := rfl
@[simp] theorem raise_cfg (d : Diagnostic) (g : BitVec 4) (p : BitVec 3) (e a : Word32) (rng : Sample × Sample) (s : State) :
    (raise d g p e a rng s).cfg = s.cfg := rfl
@[simp] theorem raise_status (d : Diagnostic) (g : BitVec 4) (p : BitVec 3) (e a : Word32) (rng : Sample × Sample) (s : State) :
    (raise d g p e a rng s).status = s.status := rfl
@[simp] theorem raise_phase (d : Diagnostic) (g : BitVec 4) (p : BitVec 3) (e a : Word32) (rng : Sample × Sample) (s : State) :
    (raise d g p e a rng s).phase = s.phase := rfl
@[simp] theorem raise_win (d : Diagnostic) (g : BitVec 4) (p : BitVec 3) (e a : Word32) (rng : Sample × Sample) (s : State) :
    (raise d g p e a rng s).win = s.win := rfl
@[simp] theorem raise_par (d : Diagnostic) (g : BitVec 4) (p : BitVec 3) (e a : Word32) (rng : Sample × Sample) (s : State) :
    (raise d g p e a rng s).par = s.par := rfl
@[simp] theorem raise_flags (d : Diagnostic) (g : BitVec 4) (p : BitVec 3) (e a : Word32) (rng : Sample × Sample) (s : State) :
    (raise d g p e a rng s).flags = s.flags := rfl
@[simp] theorem raise_out (d : Diagnostic) (g : BitVec 4) (p : BitVec 3) (e a : Word32) (rng : Sample × Sample) (s : State) :
    (raise d g p e a rng s).out = s.out ++ [⟨rng.1, rng.2, .warning (diagnosticKind d) g p e a⟩] := rfl
@[simp] theorem raise_outBase (d : Diagnostic) (g : BitVec 4) (p : BitVec 3) (e a : Word32) (rng : Sample × Sample) (s : State) :
    (raise d g p e a rng s).outBase = s.outBase := rfl
@[simp] theorem raise_rdata (d : Diagnostic) (g : BitVec 4) (p : BitVec 3) (e a : Word32) (rng : Sample × Sample) (s : State) :
    (raise d g p e a rng s).rdata = s.rdata := rfl
@[simp] theorem raise_symdecOut (d : Diagnostic) (g : BitVec 4) (p : BitVec 3) (e a : Word32) (rng : Sample × Sample) (s : State) :
    (raise d g p e a rng s).symdecOut = s.symdecOut := rfl
@[simp] theorem raise_chooseOut (d : Diagnostic) (g : BitVec 4) (p : BitVec 3) (e a : Word32) (rng : Sample × Sample) (s : State) :
    (raise d g p e a rng s).chooseOut = s.chooseOut := rfl
@[simp] theorem raise_pending (d : Diagnostic) (g : BitVec 4) (p : BitVec 3) (e a : Word32) (rng : Sample × Sample) (s : State) :
    (raise d g p e a rng s).pending = s.pending := rfl

/-! ### `memWrite` -/

@[simp] theorem memWrite_build (b : BitRecord) (s : State) : (memWrite b s).build = s.build := rfl
@[simp] theorem memWrite_cfg (b : BitRecord) (s : State) : (memWrite b s).cfg = s.cfg := rfl
@[simp] theorem memWrite_status (b : BitRecord) (s : State) : (memWrite b s).status = s.status := rfl
@[simp] theorem memWrite_phase (b : BitRecord) (s : State) : (memWrite b s).phase = s.phase := rfl
@[simp] theorem memWrite_win (b : BitRecord) (s : State) : (memWrite b s).win = { s.win with bits := s.win.bits ++ [b] } := rfl
@[simp] theorem memWrite_par (b : BitRecord) (s : State) : (memWrite b s).par = s.par := rfl
@[simp] theorem memWrite_flags (b : BitRecord) (s : State) : (memWrite b s).flags = s.flags := rfl
@[simp] theorem memWrite_out (b : BitRecord) (s : State) : (memWrite b s).out = s.out := rfl
@[simp] theorem memWrite_outBase (b : BitRecord) (s : State) : (memWrite b s).outBase = s.outBase := rfl
@[simp] theorem memWrite_rdata (b : BitRecord) (s : State) : (memWrite b s).rdata = s.rdata := rfl
@[simp] theorem memWrite_symdecOut (b : BitRecord) (s : State) : (memWrite b s).symdecOut = s.symdecOut := rfl
@[simp] theorem memWrite_chooseOut (b : BitRecord) (s : State) : (memWrite b s).chooseOut = s.chooseOut := rfl
@[simp] theorem memWrite_pending (b : BitRecord) (s : State) : (memWrite b s).pending = s.pending := rfl

/-! ### `noteOverflow` -/

@[simp] theorem noteOverflow_build (s : State) : (noteOverflow s).build = s.build := rfl
@[simp] theorem noteOverflow_cfg (s : State) : (noteOverflow s).cfg = s.cfg := rfl
@[simp] theorem noteOverflow_status (s : State) : (noteOverflow s).status = { s.status with overflow := true } := rfl
@[simp] theorem noteOverflow_phase (s : State) : (noteOverflow s).phase = s.phase := rfl
@[simp] theorem noteOverflow_win (s : State) : (noteOverflow s).win = s.win := rfl
@[simp] theorem noteOverflow_par (s : State) : (noteOverflow s).par = s.par := rfl
@[simp] theorem noteOverflow_flags (s : State) : (noteOverflow s).flags = { s.flags with ovf := true } := rfl
@[simp] theorem noteOverflow_out (s : State) : (noteOverflow s).out = s.out := rfl
@[simp] theorem noteOverflow_outBase (s : State) : (noteOverflow s).outBase = s.outBase := rfl
@[simp] theorem noteOverflow_rdata (s : State) : (noteOverflow s).rdata = s.rdata := rfl
@[simp] theorem noteOverflow_symdecOut (s : State) : (noteOverflow s).symdecOut = s.symdecOut := rfl
@[simp] theorem noteOverflow_chooseOut (s : State) : (noteOverflow s).chooseOut = s.chooseOut := rfl
@[simp] theorem noteOverflow_pending (s : State) : (noteOverflow s).pending = s.pending := rfl

/-! ### `setTrunc` -/

@[simp] theorem setTrunc_build (s : State) : (setTrunc s).build = s.build := rfl
@[simp] theorem setTrunc_cfg (s : State) : (setTrunc s).cfg = s.cfg := rfl
@[simp] theorem setTrunc_status (s : State) : (setTrunc s).status = s.status := rfl
@[simp] theorem setTrunc_phase (s : State) : (setTrunc s).phase = s.phase := rfl
@[simp] theorem setTrunc_win (s : State) : (setTrunc s).win = s.win := rfl
@[simp] theorem setTrunc_par (s : State) : (setTrunc s).par = s.par := rfl
@[simp] theorem setTrunc_flags (s : State) : (setTrunc s).flags = { s.flags with trunc := true } := rfl
@[simp] theorem setTrunc_out (s : State) : (setTrunc s).out = s.out := rfl
@[simp] theorem setTrunc_outBase (s : State) : (setTrunc s).outBase = s.outBase := rfl
@[simp] theorem setTrunc_rdata (s : State) : (setTrunc s).rdata = s.rdata := rfl
@[simp] theorem setTrunc_symdecOut (s : State) : (setTrunc s).symdecOut = s.symdecOut := rfl
@[simp] theorem setTrunc_chooseOut (s : State) : (setTrunc s).chooseOut = s.chooseOut := rfl
@[simp] theorem setTrunc_pending (s : State) : (setTrunc s).pending = s.pending := rfl

/-! ### `setBadsym` -/

@[simp] theorem setBadsym_build (s : State) : (setBadsym s).build = s.build := rfl
@[simp] theorem setBadsym_cfg (s : State) : (setBadsym s).cfg = s.cfg := rfl
@[simp] theorem setBadsym_status (s : State) : (setBadsym s).status = s.status := rfl
@[simp] theorem setBadsym_phase (s : State) : (setBadsym s).phase = s.phase := rfl
@[simp] theorem setBadsym_win (s : State) : (setBadsym s).win = s.win := rfl
@[simp] theorem setBadsym_par (s : State) : (setBadsym s).par = s.par := rfl
@[simp] theorem setBadsym_flags (s : State) : (setBadsym s).flags = { s.flags with badsym := true } := rfl
@[simp] theorem setBadsym_out (s : State) : (setBadsym s).out = s.out := rfl
@[simp] theorem setBadsym_outBase (s : State) : (setBadsym s).outBase = s.outBase := rfl
@[simp] theorem setBadsym_rdata (s : State) : (setBadsym s).rdata = s.rdata := rfl
@[simp] theorem setBadsym_symdecOut (s : State) : (setBadsym s).symdecOut = s.symdecOut := rfl
@[simp] theorem setBadsym_chooseOut (s : State) : (setBadsym s).chooseOut = s.chooseOut := rfl
@[simp] theorem setBadsym_pending (s : State) : (setBadsym s).pending = s.pending := rfl

/-! ### `setCrcFlag` -/

@[simp] theorem setCrcFlag_build (s : State) : (setCrcFlag s).build = s.build := rfl
@[simp] theorem setCrcFlag_cfg (s : State) : (setCrcFlag s).cfg = s.cfg := rfl
@[simp] theorem setCrcFlag_status (s : State) : (setCrcFlag s).status = s.status := rfl
@[simp] theorem setCrcFlag_phase (s : State) : (setCrcFlag s).phase = s.phase := rfl
@[simp] theorem setCrcFlag_win (s : State) : (setCrcFlag s).win = s.win := rfl
@[simp] theorem setCrcFlag_par (s : State) : (setCrcFlag s).par = s.par := rfl
@[simp] theorem setCrcFlag_flags (s : State) : (setCrcFlag s).flags = { s.flags with crc := true } := rfl
@[simp] theorem setCrcFlag_out (s : State) : (setCrcFlag s).out = s.out := rfl
@[simp] theorem setCrcFlag_outBase (s : State) : (setCrcFlag s).outBase = s.outBase := rfl
@[simp] theorem setCrcFlag_rdata (s : State) : (setCrcFlag s).rdata = s.rdata := rfl
@[simp] theorem setCrcFlag_symdecOut (s : State) : (setCrcFlag s).symdecOut = s.symdecOut := rfl
@[simp] theorem setCrcFlag_chooseOut (s : State) : (setCrcFlag s).chooseOut = s.chooseOut := rfl
@[simp] theorem setCrcFlag_pending (s : State) : (setCrcFlag s).pending = s.pending := rfl

/-! ### `setNoeop` -/

@[simp] theorem setNoeop_build (s : State) : (setNoeop s).build = s.build := rfl
@[simp] theorem setNoeop_cfg (s : State) : (setNoeop s).cfg = s.cfg := rfl
@[simp] theorem setNoeop_status (s : State) : (setNoeop s).status = s.status := rfl
@[simp] theorem setNoeop_phase (s : State) : (setNoeop s).phase = s.phase := rfl
@[simp] theorem setNoeop_win (s : State) : (setNoeop s).win = s.win := rfl
@[simp] theorem setNoeop_par (s : State) : (setNoeop s).par = s.par := rfl
@[simp] theorem setNoeop_flags (s : State) : (setNoeop s).flags = { s.flags with noeop := true } := rfl
@[simp] theorem setNoeop_out (s : State) : (setNoeop s).out = s.out := rfl
@[simp] theorem setNoeop_outBase (s : State) : (setNoeop s).outBase = s.outBase := rfl
@[simp] theorem setNoeop_rdata (s : State) : (setNoeop s).rdata = s.rdata := rfl
@[simp] theorem setNoeop_symdecOut (s : State) : (setNoeop s).symdecOut = s.symdecOut := rfl
@[simp] theorem setNoeop_chooseOut (s : State) : (setNoeop s).chooseOut = s.chooseOut := rfl
@[simp] theorem setNoeop_pending (s : State) : (setNoeop s).pending = s.pending := rfl

/-! ### `setNondata` -/

@[simp] theorem setNondata_build (s : State) : (setNondata s).build = s.build := rfl
@[simp] theorem setNondata_cfg (s : State) : (setNondata s).cfg = s.cfg := rfl
@[simp] theorem setNondata_status (s : State) : (setNondata s).status = s.status := rfl
@[simp] theorem setNondata_phase (s : State) : (setNondata s).phase = s.phase := rfl
@[simp] theorem setNondata_win (s : State) : (setNondata s).win = s.win := rfl
@[simp] theorem setNondata_par (s : State) : (setNondata s).par = { s.par with crcNondata := true } := rfl
@[simp] theorem setNondata_flags (s : State) : (setNondata s).flags = s.flags := rfl
@[simp] theorem setNondata_out (s : State) : (setNondata s).out = s.out := rfl
@[simp] theorem setNondata_outBase (s : State) : (setNondata s).outBase = s.outBase := rfl
@[simp] theorem setNondata_rdata (s : State) : (setNondata s).rdata = s.rdata := rfl
@[simp] theorem setNondata_symdecOut (s : State) : (setNondata s).symdecOut = s.symdecOut := rfl
@[simp] theorem setNondata_chooseOut (s : State) : (setNondata s).chooseOut = s.chooseOut := rfl
@[simp] theorem setNondata_pending (s : State) : (setNondata s).pending = s.pending := rfl

/-! ### `clearWords` -/

@[simp] theorem clearWords_build (s : State) : (clearWords s).build = s.build := rfl
@[simp] theorem clearWords_cfg (s : State) : (clearWords s).cfg = s.cfg := rfl
@[simp] theorem clearWords_status (s : State) : (clearWords s).status = s.status := rfl
@[simp] theorem clearWords_phase (s : State) : (clearWords s).phase = s.phase := rfl
@[simp] theorem clearWords_win (s : State) : (clearWords s).win = s.win := rfl
@[simp] theorem clearWords_par (s : State) : (clearWords s).par = { s.par with words := [] } := rfl
@[simp] theorem clearWords_flags (s : State) : (clearWords s).flags = s.flags := rfl
@[simp] theorem clearWords_out (s : State) : (clearWords s).out = s.out := rfl
@[simp] theorem clearWords_outBase (s : State) : (clearWords s).outBase = s.outBase := rfl
@[simp] theorem clearWords_rdata (s : State) : (clearWords s).rdata = s.rdata := rfl
@[simp] theorem clearWords_symdecOut (s : State) : (clearWords s).symdecOut = s.symdecOut := rfl
@[simp] theorem clearWords_chooseOut (s : State) : (clearWords s).chooseOut = s.chooseOut := rfl
@[simp] theorem clearWords_pending (s : State) : (clearWords s).pending = s.pending := rfl

/-! ### `setPhase` -/

@[simp] theorem setPhase_build (p : Phase) (s : State) : (setPhase p s).build = s.build := rfl
@[simp] theorem setPhase_cfg (p : Phase) (s : State) : (setPhase p s).cfg = s.cfg := rfl
@[simp] theorem setPhase_status (p : Phase) (s : State) : (setPhase p s).status = s.status := rfl
@[simp] theorem setPhase_phase (p : Phase) (s : State) : (setPhase p s).phase = p := rfl
@[simp] theorem setPhase_win (p : Phase) (s : State) : (setPhase p s).win = s.win := rfl
@[simp] theorem setPhase_par (p : Phase) (s : State) : (setPhase p s).par = s.par := rfl
@[simp] theorem setPhase_flags (p : Phase) (s : State) : (setPhase p s).flags = s.flags := rfl
@[simp] theorem setPhase_out (p : Phase) (s : State) : (setPhase p s).out = s.out := rfl
@[simp] theorem setPhase_outBase (p : Phase) (s : State) : (setPhase p s).outBase = s.outBase := rfl
@[simp] theorem setPhase_rdata (p : Phase) (s : State) : (setPhase p s).rdata = s.rdata := rfl
@[simp] theorem setPhase_symdecOut (p : Phase) (s : State) : (setPhase p s).symdecOut = s.symdecOut := rfl
@[simp] theorem setPhase_chooseOut (p : Phase) (s : State) : (setPhase p s).chooseOut = s.chooseOut := rfl
@[simp] theorem setPhase_pending (p : Phase) (s : State) : (setPhase p s).pending = s.pending := rfl

/-! ### `setIdx` -/

@[simp] theorem setIdx_build (k : Nat) (s : State) : (setIdx k s).build = s.build := rfl
@[simp] theorem setIdx_cfg (k : Nat) (s : State) : (setIdx k s).cfg = s.cfg := rfl
@[simp] theorem setIdx_status (k : Nat) (s : State) : (setIdx k s).status = s.status := rfl
@[simp] theorem setIdx_phase (k : Nat) (s : State) : (setIdx k s).phase = s.phase := rfl
@[simp] theorem setIdx_win (k : Nat) (s : State) : (setIdx k s).win = s.win := rfl
@[simp] theorem setIdx_par (k : Nat) (s : State) : (setIdx k s).par = { s.par with idx := k } := rfl
@[simp] theorem setIdx_flags (k : Nat) (s : State) : (setIdx k s).flags = s.flags := rfl
@[simp] theorem setIdx_out (k : Nat) (s : State) : (setIdx k s).out = s.out := rfl
@[simp] theorem setIdx_outBase (k : Nat) (s : State) : (setIdx k s).outBase = s.outBase := rfl
@[simp] theorem setIdx_rdata (k : Nat) (s : State) : (setIdx k s).rdata = s.rdata := rfl
@[simp] theorem setIdx_symdecOut (k : Nat) (s : State) : (setIdx k s).symdecOut = s.symdecOut := rfl
@[simp] theorem setIdx_chooseOut (k : Nat) (s : State) : (setIdx k s).chooseOut = s.chooseOut := rfl
@[simp] theorem setIdx_pending (k : Nat) (s : State) : (setIdx k s).pending = s.pending := rfl

/-! ### `setInputErr` -/

@[simp] theorem setInputErr_build (s : State) : (setInputErr s).build = s.build := rfl
@[simp] theorem setInputErr_cfg (s : State) : (setInputErr s).cfg = s.cfg := rfl
@[simp] theorem setInputErr_status (s : State) :
    (setInputErr s).status = { s.status with inputErr := true } := rfl
@[simp] theorem setInputErr_phase (s : State) : (setInputErr s).phase = s.phase := rfl
@[simp] theorem setInputErr_win (s : State) : (setInputErr s).win = s.win := rfl
@[simp] theorem setInputErr_par (s : State) : (setInputErr s).par = s.par := rfl
@[simp] theorem setInputErr_flags (s : State) : (setInputErr s).flags = s.flags := rfl
@[simp] theorem setInputErr_out (s : State) : (setInputErr s).out = s.out := rfl
@[simp] theorem setInputErr_outBase (s : State) : (setInputErr s).outBase = s.outBase := rfl
@[simp] theorem setInputErr_rdata (s : State) : (setInputErr s).rdata = s.rdata := rfl
@[simp] theorem setInputErr_symdecOut (s : State) : (setInputErr s).symdecOut = s.symdecOut := rfl
@[simp] theorem setInputErr_chooseOut (s : State) : (setInputErr s).chooseOut = s.chooseOut := rfl
@[simp] theorem setInputErr_pending (s : State) : (setInputErr s).pending = s.pending := rfl

/-! ### `setBadev` -/

@[simp] theorem setBadev_build (s : State) : (setBadev s).build = s.build := rfl
@[simp] theorem setBadev_cfg (s : State) : (setBadev s).cfg = s.cfg := rfl
@[simp] theorem setBadev_status (s : State) : (setBadev s).status = { s.status with badev := true } := rfl
@[simp] theorem setBadev_phase (s : State) : (setBadev s).phase = s.phase := rfl
@[simp] theorem setBadev_win (s : State) : (setBadev s).win = s.win := rfl
@[simp] theorem setBadev_par (s : State) : (setBadev s).par = s.par := rfl
@[simp] theorem setBadev_flags (s : State) : (setBadev s).flags = s.flags := rfl
@[simp] theorem setBadev_out (s : State) : (setBadev s).out = s.out := rfl
@[simp] theorem setBadev_outBase (s : State) : (setBadev s).outBase = s.outBase := rfl
@[simp] theorem setBadev_rdata (s : State) : (setBadev s).rdata = s.rdata := rfl
@[simp] theorem setBadev_symdecOut (s : State) : (setBadev s).symdecOut = s.symdecOut := rfl
@[simp] theorem setBadev_chooseOut (s : State) : (setBadev s).chooseOut = s.chooseOut := rfl
@[simp] theorem setBadev_pending (s : State) : (setBadev s).pending = s.pending := rfl

/-! ### `setStarted` -/

@[simp] theorem setStarted_build (s : State) : (setStarted s).build = s.build := rfl
@[simp] theorem setStarted_cfg (s : State) : (setStarted s).cfg = s.cfg := rfl
@[simp] theorem setStarted_status (s : State) :
    (setStarted s).status = { s.status with started := true } := rfl
@[simp] theorem setStarted_phase (s : State) : (setStarted s).phase = s.phase := rfl
@[simp] theorem setStarted_win (s : State) : (setStarted s).win = s.win := rfl
@[simp] theorem setStarted_par (s : State) : (setStarted s).par = s.par := rfl
@[simp] theorem setStarted_flags (s : State) : (setStarted s).flags = s.flags := rfl
@[simp] theorem setStarted_out (s : State) : (setStarted s).out = s.out := rfl
@[simp] theorem setStarted_outBase (s : State) : (setStarted s).outBase = s.outBase := rfl
@[simp] theorem setStarted_rdata (s : State) : (setStarted s).rdata = s.rdata := rfl
@[simp] theorem setStarted_symdecOut (s : State) : (setStarted s).symdecOut = s.symdecOut := rfl
@[simp] theorem setStarted_chooseOut (s : State) : (setStarted s).chooseOut = s.chooseOut := rfl
@[simp] theorem setStarted_pending (s : State) : (setStarted s).pending = s.pending := rfl

/-! ### `enterFatal` -/

@[simp] theorem enterFatal_build (t : Sample) (s : State) : (enterFatal t s).build = s.build := rfl
@[simp] theorem enterFatal_cfg (t : Sample) (s : State) : (enterFatal t s).cfg = s.cfg := rfl
@[simp] theorem enterFatal_status (t : Sample) (s : State) :
    (enterFatal t s).status = { s.status with fatal := true } := rfl
@[simp] theorem enterFatal_phase (t : Sample) (s : State) : (enterFatal t s).phase = s.phase := rfl
@[simp] theorem enterFatal_win (t : Sample) (s : State) : (enterFatal t s).win = s.win := rfl
@[simp] theorem enterFatal_par (t : Sample) (s : State) : (enterFatal t s).par = s.par := rfl
@[simp] theorem enterFatal_flags (t : Sample) (s : State) : (enterFatal t s).flags = s.flags := rfl
@[simp] theorem enterFatal_out (t : Sample) (s : State) :
    (enterFatal t s).out = s.out ++ [⟨t, t, .fatal fatalConfigMissing⟩] := rfl
@[simp] theorem enterFatal_outBase (t : Sample) (s : State) : (enterFatal t s).outBase = s.outBase := rfl
@[simp] theorem enterFatal_rdata (t : Sample) (s : State) : (enterFatal t s).rdata = s.rdata := rfl
@[simp] theorem enterFatal_symdecOut (t : Sample) (s : State) :
    (enterFatal t s).symdecOut = s.symdecOut := rfl
@[simp] theorem enterFatal_chooseOut (t : Sample) (s : State) :
    (enterFatal t s).chooseOut = s.chooseOut := rfl
@[simp] theorem enterFatal_pending (t : Sample) (s : State) : (enterFatal t s).pending = s.pending := rfl

/-! ### `openWindow` -/

@[simp] theorem openWindow_build (t : Sample) (l : Bool) (s : State) :
    (openWindow t l s).build = s.build := rfl
@[simp] theorem openWindow_cfg (t : Sample) (l : Bool) (s : State) : (openWindow t l s).cfg = s.cfg := rfl
@[simp] theorem openWindow_status (t : Sample) (l : Bool) (s : State) :
    (openWindow t l s).status = s.status := rfl
@[simp] theorem openWindow_phase (t : Sample) (l : Bool) (s : State) :
    (openWindow t l s).phase = .demodulating := rfl
@[simp] theorem openWindow_win (t : Sample) (l : Bool) (s : State) : (openWindow t l s).win = { s.win with
      isOpen := true, firstT := t, prevT := t, level := some l, halfPending := false, bits := [], demodErrs := [] } := rfl
@[simp] theorem openWindow_par (t : Sample) (l : Bool) (s : State) : (openWindow t l s).par = s.par := rfl
@[simp] theorem openWindow_flags (t : Sample) (l : Bool) (s : State) :
    (openWindow t l s).flags = FrameFlags.cleared := rfl
@[simp] theorem openWindow_out (t : Sample) (l : Bool) (s : State) : (openWindow t l s).out = s.out := rfl
@[simp] theorem openWindow_outBase (t : Sample) (l : Bool) (s : State) :
    (openWindow t l s).outBase = s.outBase := rfl
@[simp] theorem openWindow_rdata (t : Sample) (l : Bool) (s : State) :
    (openWindow t l s).rdata = s.rdata := rfl
@[simp] theorem openWindow_symdecOut (t : Sample) (l : Bool) (s : State) :
    (openWindow t l s).symdecOut = s.symdecOut := rfl
@[simp] theorem openWindow_chooseOut (t : Sample) (l : Bool) (s : State) :
    (openWindow t l s).chooseOut = s.chooseOut := rfl
@[simp] theorem openWindow_pending (t : Sample) (l : Bool) (s : State) :
    (openWindow t l s).pending = s.pending := rfl

/-! ### `clearHalf` -/

@[simp] theorem clearHalf_build (s : State) : (clearHalf s).build = s.build := rfl
@[simp] theorem clearHalf_cfg (s : State) : (clearHalf s).cfg = s.cfg := rfl
@[simp] theorem clearHalf_status (s : State) : (clearHalf s).status = s.status := rfl
@[simp] theorem clearHalf_phase (s : State) : (clearHalf s).phase = s.phase := rfl
@[simp] theorem clearHalf_win (s : State) : (clearHalf s).win = { s.win with halfPending := false } := rfl
@[simp] theorem clearHalf_par (s : State) : (clearHalf s).par = s.par := rfl
@[simp] theorem clearHalf_flags (s : State) : (clearHalf s).flags = s.flags := rfl
@[simp] theorem clearHalf_out (s : State) : (clearHalf s).out = s.out := rfl
@[simp] theorem clearHalf_outBase (s : State) : (clearHalf s).outBase = s.outBase := rfl
@[simp] theorem clearHalf_rdata (s : State) : (clearHalf s).rdata = s.rdata := rfl
@[simp] theorem clearHalf_symdecOut (s : State) : (clearHalf s).symdecOut = s.symdecOut := rfl
@[simp] theorem clearHalf_chooseOut (s : State) : (clearHalf s).chooseOut = s.chooseOut := rfl
@[simp] theorem clearHalf_pending (s : State) : (clearHalf s).pending = s.pending := rfl

/-! ### `addDemodErr` -/

@[simp] theorem addDemodErr_build (a b : Sample) (s : State) : (addDemodErr a b s).build = s.build := rfl
@[simp] theorem addDemodErr_cfg (a b : Sample) (s : State) : (addDemodErr a b s).cfg = s.cfg := rfl
@[simp] theorem addDemodErr_status (a b : Sample) (s : State) : (addDemodErr a b s).status = s.status := rfl
@[simp] theorem addDemodErr_phase (a b : Sample) (s : State) : (addDemodErr a b s).phase = s.phase := rfl
@[simp] theorem addDemodErr_win (a b : Sample) (s : State) :
    (addDemodErr a b s).win = { s.win with demodErrs := s.win.demodErrs ++ [(a, b)] } := rfl
@[simp] theorem addDemodErr_par (a b : Sample) (s : State) : (addDemodErr a b s).par = s.par := rfl
@[simp] theorem addDemodErr_flags (a b : Sample) (s : State) : (addDemodErr a b s).flags = s.flags := rfl
@[simp] theorem addDemodErr_out (a b : Sample) (s : State) : (addDemodErr a b s).out = s.out := rfl
@[simp] theorem addDemodErr_outBase (a b : Sample) (s : State) :
    (addDemodErr a b s).outBase = s.outBase := rfl
@[simp] theorem addDemodErr_rdata (a b : Sample) (s : State) : (addDemodErr a b s).rdata = s.rdata := rfl
@[simp] theorem addDemodErr_symdecOut (a b : Sample) (s : State) :
    (addDemodErr a b s).symdecOut = s.symdecOut := rfl
@[simp] theorem addDemodErr_chooseOut (a b : Sample) (s : State) :
    (addDemodErr a b s).chooseOut = s.chooseOut := rfl
@[simp] theorem addDemodErr_pending (a b : Sample) (s : State) :
    (addDemodErr a b s).pending = s.pending := rfl

/-! ### `advanceEdge` -/

@[simp] theorem advanceEdge_build (t : Sample) (l : Bool) (s : State) :
    (advanceEdge t l s).build = s.build := rfl
@[simp] theorem advanceEdge_cfg (t : Sample) (l : Bool) (s : State) : (advanceEdge t l s).cfg = s.cfg := rfl
@[simp] theorem advanceEdge_status (t : Sample) (l : Bool) (s : State) :
    (advanceEdge t l s).status = s.status := rfl
@[simp] theorem advanceEdge_phase (t : Sample) (l : Bool) (s : State) :
    (advanceEdge t l s).phase = s.phase := rfl
@[simp] theorem advanceEdge_win (t : Sample) (l : Bool) (s : State) :
    (advanceEdge t l s).win = { s.win with prevT := t, level := some l } := rfl
@[simp] theorem advanceEdge_par (t : Sample) (l : Bool) (s : State) : (advanceEdge t l s).par = s.par := rfl
@[simp] theorem advanceEdge_flags (t : Sample) (l : Bool) (s : State) :
    (advanceEdge t l s).flags = s.flags := rfl
@[simp] theorem advanceEdge_out (t : Sample) (l : Bool) (s : State) : (advanceEdge t l s).out = s.out := rfl
@[simp] theorem advanceEdge_outBase (t : Sample) (l : Bool) (s : State) :
    (advanceEdge t l s).outBase = s.outBase := rfl
@[simp] theorem advanceEdge_rdata (t : Sample) (l : Bool) (s : State) :
    (advanceEdge t l s).rdata = s.rdata := rfl
@[simp] theorem advanceEdge_symdecOut (t : Sample) (l : Bool) (s : State) :
    (advanceEdge t l s).symdecOut = s.symdecOut := rfl
@[simp] theorem advanceEdge_chooseOut (t : Sample) (l : Bool) (s : State) :
    (advanceEdge t l s).chooseOut = s.chooseOut := rfl
@[simp] theorem advanceEdge_pending (t : Sample) (l : Bool) (s : State) :
    (advanceEdge t l s).pending = s.pending := rfl

/-! ### `clearWindow` -/

@[simp] theorem clearWindow_build (s : State) : (clearWindow s).build = s.build := rfl
@[simp] theorem clearWindow_cfg (s : State) : (clearWindow s).cfg = s.cfg := rfl
@[simp] theorem clearWindow_status (s : State) : (clearWindow s).status = s.status := rfl
@[simp] theorem clearWindow_phase (s : State) : (clearWindow s).phase = s.phase := rfl
@[simp] theorem clearWindow_win (s : State) :
    (clearWindow s).win = { s.win with isOpen := false, halfPending := false, bits := [], demodErrs := [] } := rfl
@[simp] theorem clearWindow_par (s : State) : (clearWindow s).par = ParserRegs.cleared := rfl
@[simp] theorem clearWindow_flags (s : State) : (clearWindow s).flags = s.flags := rfl
@[simp] theorem clearWindow_out (s : State) : (clearWindow s).out = s.out := rfl
@[simp] theorem clearWindow_outBase (s : State) : (clearWindow s).outBase = s.outBase := rfl
@[simp] theorem clearWindow_rdata (s : State) : (clearWindow s).rdata = s.rdata := rfl
@[simp] theorem clearWindow_symdecOut (s : State) : (clearWindow s).symdecOut = s.symdecOut := rfl
@[simp] theorem clearWindow_chooseOut (s : State) : (clearWindow s).chooseOut = s.chooseOut := rfl
@[simp] theorem clearWindow_pending (s : State) : (clearWindow s).pending = s.pending := rfl

/-! ### `forgetLevel` -/

@[simp] theorem forgetLevel_build (s : State) : (forgetLevel s).build = s.build := rfl
@[simp] theorem forgetLevel_cfg (s : State) : (forgetLevel s).cfg = s.cfg := rfl
@[simp] theorem forgetLevel_status (s : State) : (forgetLevel s).status = s.status := rfl
@[simp] theorem forgetLevel_phase (s : State) : (forgetLevel s).phase = s.phase := rfl
@[simp] theorem forgetLevel_win (s : State) : (forgetLevel s).win = { s.win with level := none } := rfl
@[simp] theorem forgetLevel_par (s : State) : (forgetLevel s).par = s.par := rfl
@[simp] theorem forgetLevel_flags (s : State) : (forgetLevel s).flags = s.flags := rfl
@[simp] theorem forgetLevel_out (s : State) : (forgetLevel s).out = s.out := rfl
@[simp] theorem forgetLevel_outBase (s : State) : (forgetLevel s).outBase = s.outBase := rfl
@[simp] theorem forgetLevel_rdata (s : State) : (forgetLevel s).rdata = s.rdata := rfl
@[simp] theorem forgetLevel_symdecOut (s : State) : (forgetLevel s).symdecOut = s.symdecOut := rfl
@[simp] theorem forgetLevel_chooseOut (s : State) : (forgetLevel s).chooseOut = s.chooseOut := rfl
@[simp] theorem forgetLevel_pending (s : State) : (forgetLevel s).pending = s.pending := rfl

/-! ### `acceptHit` -/

@[simp] theorem acceptHit_build (h : SyncHit) (s : State) : (acceptHit h s).build = s.build := rfl
@[simp] theorem acceptHit_cfg (h : SyncHit) (s : State) : (acceptHit h s).cfg = s.cfg := rfl
@[simp] theorem acceptHit_status (h : SyncHit) (s : State) : (acceptHit h s).status = s.status := rfl
@[simp] theorem acceptHit_phase (h : SyncHit) (s : State) : (acceptHit h s).phase = s.phase := rfl
@[simp] theorem acceptHit_win (h : SyncHit) (s : State) : (acceptHit h s).win = s.win := rfl
@[simp] theorem acceptHit_par (h : SyncHit) (s : State) : (acceptHit h s).par = { s.par with
      sopOff := h.off, sopKind := h.row.kind,
      sopMatches := BitVec.ofNat 3 (rowMatches s.build (candidateAt s h.off) h.row) } := rfl
@[simp] theorem acceptHit_flags (h : SyncHit) (s : State) : (acceptHit h s).flags = s.flags := rfl
@[simp] theorem acceptHit_out (h : SyncHit) (s : State) : (acceptHit h s).out = s.out := rfl
@[simp] theorem acceptHit_outBase (h : SyncHit) (s : State) : (acceptHit h s).outBase = s.outBase := rfl
@[simp] theorem acceptHit_rdata (h : SyncHit) (s : State) : (acceptHit h s).rdata = s.rdata := rfl
@[simp] theorem acceptHit_symdecOut (h : SyncHit) (s : State) : (acceptHit h s).symdecOut = s.symdecOut := rfl
@[simp] theorem acceptHit_chooseOut (h : SyncHit) (s : State) : (acceptHit h s).chooseOut = s.chooseOut := rfl
@[simp] theorem acceptHit_pending (h : SyncHit) (s : State) : (acceptHit h s).pending = s.pending := rfl

/-! ### `setHeader` -/

@[simp] theorem setHeader_build (h : Header16) (s : State) : (setHeader h s).build = s.build := rfl
@[simp] theorem setHeader_cfg (h : Header16) (s : State) : (setHeader h s).cfg = s.cfg := rfl
@[simp] theorem setHeader_status (h : Header16) (s : State) : (setHeader h s).status = s.status := rfl
@[simp] theorem setHeader_phase (h : Header16) (s : State) : (setHeader h s).phase = s.phase := rfl
@[simp] theorem setHeader_win (h : Header16) (s : State) : (setHeader h s).win = s.win := rfl
@[simp] theorem setHeader_par (h : Header16) (s : State) :
    (setHeader h s).par = { s.par with hdr := h, count := hdrCount h } := rfl
@[simp] theorem setHeader_flags (h : Header16) (s : State) : (setHeader h s).flags = s.flags := rfl
@[simp] theorem setHeader_out (h : Header16) (s : State) : (setHeader h s).out = s.out := rfl
@[simp] theorem setHeader_outBase (h : Header16) (s : State) : (setHeader h s).outBase = s.outBase := rfl
@[simp] theorem setHeader_rdata (h : Header16) (s : State) : (setHeader h s).rdata = s.rdata := rfl
@[simp] theorem setHeader_symdecOut (h : Header16) (s : State) :
    (setHeader h s).symdecOut = s.symdecOut := rfl
@[simp] theorem setHeader_chooseOut (h : Header16) (s : State) :
    (setHeader h s).chooseOut = s.chooseOut := rfl
@[simp] theorem setHeader_pending (h : Header16) (s : State) : (setHeader h s).pending = s.pending := rfl

/-! ### `pushWord` -/

@[simp] theorem pushWord_build (v : Word32) (s : State) : (pushWord v s).build = s.build := rfl
@[simp] theorem pushWord_cfg (v : Word32) (s : State) : (pushWord v s).cfg = s.cfg := rfl
@[simp] theorem pushWord_status (v : Word32) (s : State) : (pushWord v s).status = s.status := rfl
@[simp] theorem pushWord_phase (v : Word32) (s : State) : (pushWord v s).phase = s.phase := rfl
@[simp] theorem pushWord_win (v : Word32) (s : State) : (pushWord v s).win = s.win := rfl
@[simp] theorem pushWord_par (v : Word32) (s : State) :
    (pushWord v s).par = { s.par with words := s.par.words ++ [v] } := rfl
@[simp] theorem pushWord_flags (v : Word32) (s : State) : (pushWord v s).flags = s.flags := rfl
@[simp] theorem pushWord_out (v : Word32) (s : State) : (pushWord v s).out = s.out := rfl
@[simp] theorem pushWord_outBase (v : Word32) (s : State) : (pushWord v s).outBase = s.outBase := rfl
@[simp] theorem pushWord_rdata (v : Word32) (s : State) : (pushWord v s).rdata = s.rdata := rfl
@[simp] theorem pushWord_symdecOut (v : Word32) (s : State) : (pushWord v s).symdecOut = s.symdecOut := rfl
@[simp] theorem pushWord_chooseOut (v : Word32) (s : State) : (pushWord v s).chooseOut = s.chooseOut := rfl
@[simp] theorem pushWord_pending (v : Word32) (s : State) : (pushWord v s).pending = s.pending := rfl

/-! ### `beginTrailer` -/

@[simp] theorem beginTrailer_build (s : State) : (beginTrailer s).build = s.build := rfl
@[simp] theorem beginTrailer_cfg (s : State) : (beginTrailer s).cfg = s.cfg := rfl
@[simp] theorem beginTrailer_status (s : State) : (beginTrailer s).status = s.status := rfl
@[simp] theorem beginTrailer_phase (s : State) : (beginTrailer s).phase = s.phase := rfl
@[simp] theorem beginTrailer_win (s : State) : (beginTrailer s).win = s.win := rfl
@[simp] theorem beginTrailer_par (s : State) :
    (beginTrailer s).par = { s.par with crcStart := s.par.idx, crcNondata := false } := rfl
@[simp] theorem beginTrailer_flags (s : State) : (beginTrailer s).flags = s.flags := rfl
@[simp] theorem beginTrailer_out (s : State) : (beginTrailer s).out = s.out := rfl
@[simp] theorem beginTrailer_outBase (s : State) : (beginTrailer s).outBase = s.outBase := rfl
@[simp] theorem beginTrailer_rdata (s : State) : (beginTrailer s).rdata = s.rdata := rfl
@[simp] theorem beginTrailer_symdecOut (s : State) : (beginTrailer s).symdecOut = s.symdecOut := rfl
@[simp] theorem beginTrailer_chooseOut (s : State) : (beginTrailer s).chooseOut = s.chooseOut := rfl
@[simp] theorem beginTrailer_pending (s : State) : (beginTrailer s).pending = s.pending := rfl

/-! ### `setCrcRx` -/

@[simp] theorem setCrcRx_build (v : Word32) (s : State) : (setCrcRx v s).build = s.build := rfl
@[simp] theorem setCrcRx_cfg (v : Word32) (s : State) : (setCrcRx v s).cfg = s.cfg := rfl
@[simp] theorem setCrcRx_status (v : Word32) (s : State) : (setCrcRx v s).status = s.status := rfl
@[simp] theorem setCrcRx_phase (v : Word32) (s : State) : (setCrcRx v s).phase = s.phase := rfl
@[simp] theorem setCrcRx_win (v : Word32) (s : State) : (setCrcRx v s).win = s.win := rfl
@[simp] theorem setCrcRx_par (v : Word32) (s : State) : (setCrcRx v s).par = { s.par with crcRx := v } := rfl
@[simp] theorem setCrcRx_flags (v : Word32) (s : State) : (setCrcRx v s).flags = s.flags := rfl
@[simp] theorem setCrcRx_out (v : Word32) (s : State) : (setCrcRx v s).out = s.out := rfl
@[simp] theorem setCrcRx_outBase (v : Word32) (s : State) : (setCrcRx v s).outBase = s.outBase := rfl
@[simp] theorem setCrcRx_rdata (v : Word32) (s : State) : (setCrcRx v s).rdata = s.rdata := rfl
@[simp] theorem setCrcRx_symdecOut (v : Word32) (s : State) : (setCrcRx v s).symdecOut = s.symdecOut := rfl
@[simp] theorem setCrcRx_chooseOut (v : Word32) (s : State) : (setCrcRx v s).chooseOut = s.chooseOut := rfl
@[simp] theorem setCrcRx_pending (v : Word32) (s : State) : (setCrcRx v s).pending = s.pending := rfl

/-! ### `crc32` and `computeCrc` -/

@[simp] theorem crc32_reflected (poly init xorOut : Word32) (bytes : List Byte) :
    crc32 (.reflected poly init xorOut) bytes = bytes.foldl (crcByte poly) init ^^^ xorOut := rfl
@[simp] theorem crc32_other (id : Nat) (bytes : List Byte) :
    crc32 (.other id) bytes = Config.otherChecksum id bytes := rfl

@[simp] theorem computeCrc_build (s : State) : (computeCrc s).build = s.build := rfl
@[simp] theorem computeCrc_cfg (s : State) : (computeCrc s).cfg = s.cfg := rfl
@[simp] theorem computeCrc_status (s : State) : (computeCrc s).status = s.status := rfl
@[simp] theorem computeCrc_phase (s : State) : (computeCrc s).phase = s.phase := rfl
@[simp] theorem computeCrc_win (s : State) : (computeCrc s).win = s.win := rfl
@[simp] theorem computeCrc_par (s : State) :
    (computeCrc s).par = { s.par with crcCalc := crc32 s.build.crcAlgo (ser s.par.hdr s.par.words) } := rfl
@[simp] theorem computeCrc_flags (s : State) : (computeCrc s).flags = s.flags := rfl
@[simp] theorem computeCrc_out (s : State) : (computeCrc s).out = s.out := rfl
@[simp] theorem computeCrc_outBase (s : State) : (computeCrc s).outBase = s.outBase := rfl
@[simp] theorem computeCrc_rdata (s : State) : (computeCrc s).rdata = s.rdata := rfl
@[simp] theorem computeCrc_symdecOut (s : State) : (computeCrc s).symdecOut = s.symdecOut := rfl
@[simp] theorem computeCrc_chooseOut (s : State) : (computeCrc s).chooseOut = s.chooseOut := rfl
@[simp] theorem computeCrc_pending (s : State) : (computeCrc s).pending = s.pending := rfl

/-! ### `doReset` -/

@[simp] theorem doReset_build (s : State) : (doReset s).build = s.build := rfl
@[simp] theorem doReset_cfg (s : State) : (doReset s).cfg = CfgRegs.reset := rfl
@[simp] theorem doReset_status (s : State) : (doReset s).status = StatusBits.reset := rfl
@[simp] theorem doReset_phase (s : State) : (doReset s).phase = .demodulating := rfl
@[simp] theorem doReset_win (s : State) : (doReset s).win = WindowState.reset := rfl
@[simp] theorem doReset_par (s : State) : (doReset s).par = ParserRegs.cleared := rfl
@[simp] theorem doReset_flags (s : State) : (doReset s).flags = FrameFlags.cleared := rfl
@[simp] theorem doReset_out (s : State) : (doReset s).out = s.out := rfl
@[simp] theorem doReset_outBase (s : State) : (doReset s).outBase = s.out.length := rfl
@[simp] theorem doReset_rdata (s : State) : (doReset s).rdata = 0 := rfl
@[simp] theorem doReset_symdecOut (s : State) : (doReset s).symdecOut = ⟨0, 0⟩ := rfl
@[simp] theorem doReset_chooseOut (s : State) : (doReset s).chooseOut = none := rfl
@[simp] theorem doReset_pending (s : State) : (doReset s).pending = s.pending := rfl

/-! ### `setHalf` -/

@[simp] theorem setHalf_build (s : State) (v : Sample) : (setHalf s v).build = s.build := rfl
@[simp] theorem setHalf_cfg (s : State) (v : Sample) : (setHalf s v).cfg = s.cfg := rfl
@[simp] theorem setHalf_status (s : State) (v : Sample) : (setHalf s v).status = s.status := rfl
@[simp] theorem setHalf_phase (s : State) (v : Sample) : (setHalf s v).phase = s.phase := rfl
@[simp] theorem setHalf_win (s : State) (v : Sample) : (setHalf s v).win = { s.win with halfPending := true, halfStart := v } := rfl
@[simp] theorem setHalf_par (s : State) (v : Sample) : (setHalf s v).par = s.par := rfl
@[simp] theorem setHalf_flags (s : State) (v : Sample) : (setHalf s v).flags = s.flags := rfl
@[simp] theorem setHalf_out (s : State) (v : Sample) : (setHalf s v).out = s.out := rfl
@[simp] theorem setHalf_outBase (s : State) (v : Sample) : (setHalf s v).outBase = s.outBase := rfl
@[simp] theorem setHalf_rdata (s : State) (v : Sample) : (setHalf s v).rdata = s.rdata := rfl
@[simp] theorem setHalf_symdecOut (s : State) (v : Sample) : (setHalf s v).symdecOut = s.symdecOut := rfl
@[simp] theorem setHalf_chooseOut (s : State) (v : Sample) : (setHalf s v).chooseOut = s.chooseOut := rfl
@[simp] theorem setHalf_pending (s : State) (v : Sample) : (setHalf s v).pending = s.pending := rfl

/-! ### Views of the buffer: they read only `win` -/

@[simp] theorem nbits_eq (s : State) : nbits s = s.win.bits.length := rfl

theorem range_congr {s t : State} (h : t.win = s.win) (a b : Nat) : range t a b = range s a b := by
  simp [range, bitStart, bitEnd, h]

theorem edgeSpan_eq (s : State) : edgeSpan s = (s.win.firstT, s.win.prevT) := rfl

theorem codeAt_congr {s t : State} (h : t.win = s.win) (k : Nat) : codeAt t k = codeAt s k := by
  simp [codeAt, h]

theorem symAt_congr {s t : State} (hb : t.build = s.build) (h : t.win = s.win) (k : Nat) :
    symAt t k = symAt s k := by
  simp [symAt, codeAt_congr h, hb]

theorem candidateAt_congr {s t : State} (h : t.win = s.win) (i : Nat) :
    candidateAt t i = candidateAt s i := by
  simp [candidateAt, h]

end Sys2Proof.Machine
end

