-- ==== Sys2Proof/Laws/Frames.lean ====
section
/-! SUPPORT. What the work on a closed window can change: only the phase, the parser registers, the frame
flags other than `f_ovf`, and the output stream, which only grows. One lemma per operation. -/

namespace Sys2Proof.Machine

/-- `t` differs from `s` at most in the phase, the parser registers, the flags other than `f_ovf`, and
records appended to the output. -/
structure WorkFrame (s t : State) : Prop where
  build : t.build = s.build
  cfg : t.cfg = s.cfg
  status : t.status = s.status
  win : t.win = s.win
  ovf : t.flags.ovf = s.flags.ovf
  outBase : t.outBase = s.outBase
  rdata : t.rdata = s.rdata
  symdecOut : t.symdecOut = s.symdecOut
  chooseOut : t.chooseOut = s.chooseOut
  pending : t.pending = s.pending
  out : s.out <+: t.out

theorem WorkFrame.refl (s : State) : WorkFrame s s :=
  ⟨rfl, rfl, rfl, rfl, rfl, rfl, rfl, rfl, rfl, rfl, List.prefix_refl _⟩

theorem WorkFrame.trans {s t u : State} (h : WorkFrame s t) (k : WorkFrame t u) : WorkFrame s u where
  build := k.build.trans h.build
  cfg := k.cfg.trans h.cfg
  status := k.status.trans h.status
  win := k.win.trans h.win
  ovf := k.ovf.trans h.ovf
  outBase := k.outBase.trans h.outBase
  rdata := k.rdata.trans h.rdata
  symdecOut := k.symdecOut.trans h.symdecOut
  chooseOut := k.chooseOut.trans h.chooseOut
  pending := k.pending.trans h.pending
  out := h.out.trans k.out

/-- A state that agrees with `s` on everything but phase, parser registers, and flags other than `f_ovf`. -/
theorem WorkFrame.ofUpdate (s : State) (p : Phase) (q : ParserRegs) (f : FrameFlags) (rs : List Record)
    (h : f.ovf = s.flags.ovf) :
    WorkFrame s { s with phase := p, par := q, flags := f, out := s.out ++ rs } :=
  ⟨rfl, rfl, rfl, rfl, h, rfl, rfl, rfl, rfl, rfl, List.prefix_append _ _⟩

theorem emit_frame (r : Record) (s : State) : WorkFrame s (emit r s) :=
  ⟨rfl, rfl, rfl, rfl, rfl, rfl, rfl, rfl, rfl, rfl, List.prefix_append _ _⟩

theorem raise_frame (d : Diagnostic) (g : BitVec 4) (p : BitVec 3) (e a : Word32) (rng : Sample × Sample)
    (s : State) : WorkFrame s (raise d g p e a rng s) := emit_frame _ s

theorem setPhase_frame (p : Phase) (s : State) : WorkFrame s (setPhase p s) :=
  ⟨rfl, rfl, rfl, rfl, rfl, rfl, rfl, rfl, rfl, rfl, List.prefix_refl _⟩

theorem setPar_frame (q : ParserRegs) (s : State) : WorkFrame s { s with par := q } :=
  ⟨rfl, rfl, rfl, rfl, rfl, rfl, rfl, rfl, rfl, rfl, List.prefix_refl _⟩

theorem setFlags_frame (f : FrameFlags) (s : State) (h : f.ovf = s.flags.ovf) :
    WorkFrame s { s with flags := f } :=
  ⟨rfl, rfl, rfl, rfl, h, rfl, rfl, rfl, rfl, rfl, List.prefix_refl _⟩

theorem setIdx_frame (k : Nat) (s : State) : WorkFrame s (setIdx k s) := setPar_frame _ s
theorem acceptHit_frame (h : SyncHit) (s : State) : WorkFrame s (acceptHit h s) := setPar_frame _ s
theorem setHeader_frame (h : Header16) (s : State) : WorkFrame s (setHeader h s) := setPar_frame _ s
theorem pushWord_frame (v : Word32) (s : State) : WorkFrame s (pushWord v s) := setPar_frame _ s
theorem beginTrailer_frame (s : State) : WorkFrame s (beginTrailer s) := setPar_frame _ s
theorem setCrcRx_frame (v : Word32) (s : State) : WorkFrame s (setCrcRx v s) := setPar_frame _ s
theorem computeCrc_frame (s : State) : WorkFrame s (computeCrc s) := setPar_frame _ s
theorem setNondata_frame (s : State) : WorkFrame s (setNondata s) := setPar_frame _ s
theorem clearWords_frame (s : State) : WorkFrame s (clearWords s) := setPar_frame _ s
theorem setTrunc_frame (s : State) : WorkFrame s (setTrunc s) := setFlags_frame _ s rfl
theorem setBadsym_frame (s : State) : WorkFrame s (setBadsym s) := setFlags_frame _ s rfl
theorem setCrcFlag_frame (s : State) : WorkFrame s (setCrcFlag s) := setFlags_frame _ s rfl
theorem setNoeop_frame (s : State) : WorkFrame s (setNoeop s) := setFlags_frame _ s rfl

theorem emitSymbol_frame (g : BitVec 4) (pos k : Nat) (s : State) : WorkFrame s (emitSymbol g pos k s) :=
  emit_frame _ s

theorem noteBadSymbol_frame (g : BitVec 4) (pos k : Nat) (s : State) :
    WorkFrame s (noteBadSymbol g pos k s) := by
  unfold noteBadSymbol
  split
  · exact (setBadsym_frame s).trans (raise_frame _ _ _ _ _ _ _)
  · exact .refl s

theorem noteNondata_frame (g : BitVec 4) (k : Nat) (s : State) : WorkFrame s (noteNondata g k s) := by
  unfold noteNondata
  split
  · exact setNondata_frame s
  · exact .refl s

theorem groupSymbol_frame (g : BitVec 4) (pos k : Nat) (s : State) : WorkFrame s (groupSymbol g pos k s) :=
  ((emitSymbol_frame g pos k s).trans (noteBadSymbol_frame g pos k _)).trans (noteNondata_frame g k _)

theorem groupSymbols_frame (g : BitVec 4) (n : Nat) : ∀ (j : Nat) (v : Word32) (s : State),
    WorkFrame s (groupSymbols g n j v s).2 := by
  induction n with
  | zero => exact fun _ _ s => .refl s
  | succ n ih => exact fun j v s => (groupSymbol_frame g j _ s).trans (ih (j + 1) _ _)

theorem group_frame (n : Nat) (g : BitVec 4) (s : State) : WorkFrame s (group n g s).2 := by
  unfold group
  split
  · exact .refl s
  · exact (groupSymbols_frame g n 0 0 s).trans (setIdx_frame _ _)

theorem truncatedGroup_frame (g : BitVec 4) (b : Body) (s : State) : WorkFrame s (truncatedGroup g b s) :=
  ((setTrunc_frame s).trans (emit_frame _ _)).trans
    (raise_frame _ _ _ _ _ _ _)

theorem emitGroupRecord_frame (n : Nat) (b : Body) (s : State) : WorkFrame s (emitGroupRecord n b s) :=
  emit_frame _ s

theorem parseHeader_frame (s : State) : WorkFrame s (parseHeader s) := by
  unfold parseHeader
  have h := group_frame 4 groupHeader s
  split <;> (rename_i heq; rw [heq] at h)
  · exact ((h.trans (setHeader_frame _ _)).trans (truncatedGroup_frame _ _ _)).trans (setPhase_frame _ _)
  · exact ((h.trans (setHeader_frame _ _)).trans (emitGroupRecord_frame _ _ _)).trans (setPhase_frame _ _)

theorem parseWord_frame (w : Nat) (s : State) : WorkFrame s (parseWord w s) := by
  unfold parseWord
  have h := group_frame 8 (groupWord w) s
  split <;> (rename_i heq; rw [heq] at h)
  · exact (h.trans (pushWord_frame _ _)).trans (truncatedGroup_frame _ _ _)
  · exact (h.trans (pushWord_frame _ _)).trans (emitGroupRecord_frame _ _ _)

theorem parseWords_frame (n : Nat) : ∀ (w : Nat) (s : State), WorkFrame s (parseWords n w s) := by
  induction n with
  | zero => exact fun _ s => .refl s
  | succ n ih => exact fun w s => (parseWord_frame w s).trans (ih (w + 1) _)

theorem parsePayload_frame (s : State) : WorkFrame s (parsePayload s) :=
  ((clearWords_frame s).trans (parseWords_frame _ _ _)).trans (setPhase_frame _ _)

theorem parseTrailerGroup_frame (s : State) : WorkFrame s (parseTrailerGroup s) := by
  unfold parseTrailerGroup
  have h := (beginTrailer_frame s).trans (group_frame 8 groupTrailer (beginTrailer s))
  split <;> (rename_i heq; rw [heq] at h)
  · exact (h.trans (setCrcRx_frame _ _)).trans (truncatedGroup_frame _ _ _)
  · exact (h.trans (setCrcRx_frame _ _)).trans (emitGroupRecord_frame _ _ _)

theorem compareCrc_frame (s : State) : WorkFrame s (compareCrc s) := by
  unfold compareCrc
  split
  · exact (setCrcFlag_frame s).trans (raise_frame _ _ _ _ _ _ _)
  · exact .refl s

theorem checkCrc_frame (s : State) : WorkFrame s (checkCrc s) :=
  (computeCrc_frame s).trans (compareCrc_frame _)

theorem parseTrailer_frame (s : State) : WorkFrame s (parseTrailer s) :=
  ((parseTrailerGroup_frame s).trans (checkCrc_frame _)).trans (setPhase_frame _ _)

theorem missingTerminator_frame (rng : Sample × Sample) (s : State) :
    WorkFrame s (missingTerminator rng s) :=
  (setNoeop_frame s).trans (raise_frame _ _ _ _ _ _ _)

theorem parseTerminator_frame (s : State) : WorkFrame s (parseTerminator s) := by
  unfold parseTerminator
  dsimp only
  split
  · split
    · exact ((emitSymbol_frame _ _ _ s).trans (emit_frame _ _)).trans (setIdx_frame _ _)
    · exact (emitSymbol_frame _ _ _ s).trans (missingTerminator_frame _ _)
  · exact missingTerminator_frame _ s

theorem emitPreamble_frame (s : State) : WorkFrame s (emitPreamble s) := by
  unfold emitPreamble
  split
  · exact emit_frame _ s
  · exact .refl s

theorem emitSopSymbols_frame (s : State) : WorkFrame s (emitSopSymbols s) :=
  (((emitSymbol_frame _ _ _ s).trans (emitSymbol_frame _ _ _ _)).trans (emitSymbol_frame _ _ _ _)).trans
    (emitSymbol_frame _ _ _ _)

theorem emitSop_frame (s : State) : WorkFrame s (emitSop s) := emit_frame _ s

theorem enterParser_frame (s : State) : WorkFrame s (enterParser s) :=
  (setIdx_frame _ s).trans (setPhase_frame _ _)

theorem emitFrame_frame (s : State) : WorkFrame s (emitFrame s) := emit_frame _ s
theorem emitBitrate_frame (s : State) : WorkFrame s (emitBitrate s) := emit_frame _ s

/-- The state the parser starts from: the frame start reported, `idx` after it. -/
def afterSop (s : State) : State := enterParser (emitSop (emitSopSymbols (emitPreamble s)))

/-- The state after the terminator, from which FRAME and BITRATE are emitted. -/
def afterTerminator (s : State) : State :=
  parseTerminator (parseTrailer (parsePayload (parseHeader (afterSop s))))

theorem frameOutput_eq (s : State) : frameOutput s = emitBitrate (emitFrame (afterTerminator s)) := rfl

theorem afterSop_frame (s : State) : WorkFrame s (afterSop s) :=
  (((emitPreamble_frame s).trans (emitSopSymbols_frame _)).trans (emitSop_frame _)).trans
    (enterParser_frame _)

theorem afterTerminator_frame (s : State) : WorkFrame s (afterTerminator s) :=
  ((((afterSop_frame s).trans (parseHeader_frame _)).trans (parsePayload_frame _)).trans
    (parseTrailer_frame _)).trans (parseTerminator_frame _)

theorem frameOutput_frame (s : State) : WorkFrame s (frameOutput s) :=
  ((afterTerminator_frame s).trans (emitFrame_frame _)).trans (emitBitrate_frame _)

theorem junkOutput_frame (s : State) : WorkFrame s (junkOutput s) :=
  (emit_frame _ s).trans (raise_frame _ _ _ _ _ _ _)

theorem resetOutput_frame (s : State) : WorkFrame s (resetOutput s) := emit_frame _ s

theorem windowPath_frame (s : State) : WorkFrame s (windowPath s) := by
  unfold windowPath
  split
  · exact junkOutput_frame s
  · dsimp only
    split
    · exact (acceptHit_frame _ s).trans (resetOutput_frame _)
    · exact (acceptHit_frame _ s).trans (frameOutput_frame _)

theorem dumpRawBits_frame (s : State) : WorkFrame s (dumpRawBits s) := by
  unfold dumpRawBits
  split
  · exact emit_frame _ s
  · exact .refl s

theorem raiseOverflow_frame (s : State) : WorkFrame s (raiseOverflow s) := by
  unfold raiseOverflow
  split
  · exact raise_frame _ _ _ _ _ _ _
  · exact .refl s

theorem raiseEach_frame (es : List (Sample × Sample)) : ∀ s : State,
    WorkFrame s (es.foldl (fun s e => raise .demodulationError groupNone 0 0 0 e s) s) := by
  induction es with
  | nil => exact fun s => .refl s
  | cons e es ih => exact fun s => (raise_frame _ _ _ _ _ _ s).trans (ih _)

theorem raiseDemodErrs_frame (s : State) : WorkFrame s (raiseDemodErrs s) := raiseEach_frame _ s

/-- The window's work before its state is cleared. -/
def closeWork (s : State) : State :=
  dumpRawBits (windowPath (raiseOverflow (raiseDemodErrs (setPhase .synchronizing s))))

theorem closeWindow_eq (s : State) : closeWindow s = setPhase .demodulating (clearWindow (closeWork s)) :=
  rfl

theorem closeWork_frame (s : State) : WorkFrame s (closeWork s) :=
  ((((setPhase_frame _ s).trans (raiseDemodErrs_frame _)).trans (raiseOverflow_frame _)).trans
    (windowPath_frame _)).trans (dumpRawBits_frame _)

/-! ### What `closeWindow` leaves -/

@[simp] theorem closeWindow_build (s : State) : (closeWindow s).build = s.build := (closeWork_frame s).build
@[simp] theorem closeWindow_cfg (s : State) : (closeWindow s).cfg = s.cfg := (closeWork_frame s).cfg
@[simp] theorem closeWindow_status (s : State) : (closeWindow s).status = s.status :=
  (closeWork_frame s).status
@[simp] theorem closeWindow_outBase (s : State) : (closeWindow s).outBase = s.outBase :=
  (closeWork_frame s).outBase
@[simp] theorem closeWindow_rdata (s : State) : (closeWindow s).rdata = s.rdata := (closeWork_frame s).rdata
@[simp] theorem closeWindow_symdecOut (s : State) : (closeWindow s).symdecOut = s.symdecOut :=
  (closeWork_frame s).symdecOut
@[simp] theorem closeWindow_chooseOut (s : State) : (closeWindow s).chooseOut = s.chooseOut :=
  (closeWork_frame s).chooseOut
@[simp] theorem closeWindow_pending (s : State) : (closeWindow s).pending = s.pending :=
  (closeWork_frame s).pending
@[simp] theorem closeWindow_phase (s : State) : (closeWindow s).phase = .demodulating := by
  simp [closeWindow_eq]
@[simp] theorem closeWindow_par (s : State) : (closeWindow s).par = ParserRegs.cleared := by
  simp [closeWindow_eq]
@[simp] theorem closeWindow_ovf (s : State) : (closeWindow s).flags.ovf = s.flags.ovf :=
  (closeWork_frame s).ovf
@[simp] theorem closeWindow_win (s : State) : (closeWindow s).win =
    { s.win with isOpen := false, halfPending := false, bits := [], demodErrs := [] } := by
  simp [closeWindow_eq, (closeWork_frame s).win]

theorem closeWindow_out (s : State) : (closeWindow s).out = (closeWork s).out := by
  simp [closeWindow_eq]

theorem closeWindow_out_prefix (s : State) : s.out <+: (closeWindow s).out :=
  closeWindow_out s ▸ (closeWork_frame s).out

end Sys2Proof.Machine
end

