-- ==== Sys2Proof/Laws/Memory.lean ====
section
/-! SUPPORT. The bit buffer: its form is kept by every operation that writes it, what the form says of its
records, and what reading it gives. -/

namespace Sys2Proof.Machine

/-! ### The form -/

theorem Memory.wfFrom_nil (lo : Sample) : Memory.wfFrom lo [] = true := rfl

theorem Memory.wfFrom_cons {lo : Sample} {b : BitRecord} {m : Memory} :
    Memory.wfFrom lo (b :: m) = true ↔ lo ≤ b.start ∧ b.start < b.stop ∧ Memory.wfFrom b.stop m = true := by
  simp [Memory.wfFrom, and_assoc]

@[simp] theorem Memory.endFrom_nil (lo : Sample) : Memory.endFrom lo [] = lo := rfl
@[simp] theorem Memory.endFrom_cons (lo : Sample) (b : BitRecord) (m : Memory) :
    Memory.endFrom lo (b :: m) = Memory.endFrom b.stop m := rfl

theorem Memory.endFrom_append (m : Memory) (b : BitRecord) : ∀ lo, Memory.endFrom lo (m ++ [b]) = b.stop := by
  induction m with
  | nil => simp
  | cons a m ih => exact fun _ => ih a.stop

/-- A record after the end keeps the form. -/
theorem Memory.wfFrom_append {b : BitRecord} (hb : b.start < b.stop) (m : Memory) : ∀ lo,
    Memory.wfFrom lo m = true → Memory.endFrom lo m ≤ b.start → Memory.wfFrom lo (m ++ [b]) = true := by
  induction m with
  | nil => exact fun lo _ h => Memory.wfFrom_cons.2 ⟨h, hb, rfl⟩
  | cons a m ih =>
    intro lo h he
    obtain ⟨h1, h2, h3⟩ := Memory.wfFrom_cons.1 h
    exact Memory.wfFrom_cons.2 ⟨h1, h2, ih a.stop h3 he⟩

theorem Memory.le_endFrom (m : Memory) : ∀ lo, Memory.wfFrom lo m = true → lo ≤ Memory.endFrom lo m := by
  induction m with
  | nil => exact fun lo _ => BitVec.le_refl lo
  | cons a m ih =>
    intro lo h
    obtain ⟨h1, h2, h3⟩ := Memory.wfFrom_cons.1 h
    have := ih a.stop h3
    simp only [Memory.endFrom_cons]
    bv_omega

/-- Every record takes at least one sample, so a buffer is no longer than the span it lies in
(41_bit_recovery.md R77 (d)). -/
theorem Memory.length_le (m : Memory) : ∀ lo, Memory.wfFrom lo m = true →
    lo.toNat + m.length ≤ (Memory.endFrom lo m).toNat := by
  induction m with
  | nil => simp
  | cons a m ih =>
    intro lo h
    obtain ⟨h1, h2, h3⟩ := Memory.wfFrom_cons.1 h
    have := ih a.stop h3
    simp only [List.length_cons, Memory.endFrom_cons]
    bv_omega

theorem Memory.wfFrom_weaken (m : Memory) {lo lo' : Sample} (h : Memory.wfFrom lo m = true)
    (hl : lo' ≤ lo) : Memory.wfFrom lo' m = true := by
  cases m with
  | nil => rfl
  | cons a m =>
    obtain ⟨h1, h2, h3⟩ := Memory.wfFrom_cons.1 h
    exact Memory.wfFrom_cons.2 ⟨BitVec.le_trans hl h1, h2, h3⟩

theorem Memory.wf_of_wfFrom {m : Memory} {lo : Sample} (h : Memory.wfFrom lo m = true) :
    Memory.wf m = true := Memory.wfFrom_weaken m h (by bv_omega)

/-- A record of a well-formed buffer lies between `lo` and the buffer's end, and is not empty. -/
theorem Memory.mem_bounds (m : Memory) : ∀ lo, Memory.wfFrom lo m = true → ∀ b ∈ m,
    lo ≤ b.start ∧ b.start < b.stop ∧ b.stop ≤ Memory.endFrom lo m := by
  induction m with
  | nil => exact fun _ _ b hb => absurd hb (List.not_mem_nil)
  | cons a m ih =>
    intro lo h b hb
    obtain ⟨h1, h2, h3⟩ := Memory.wfFrom_cons.1 h
    rcases List.mem_cons.1 hb with rfl | hb
    · exact ⟨h1, h2, Memory.le_endFrom m _ h3⟩
    · obtain ⟨k1, k2, k3⟩ := ih a.stop h3 b hb
      exact ⟨by bv_omega, k2, k3⟩

/-- Records start before later records end (41_bit_recovery.md R77 (b)). -/
theorem Memory.start_lt_stop (m : Memory) : ∀ lo, Memory.wfFrom lo m = true →
    ∀ i j (hij : i ≤ j) (hj : j < m.length), (m[i]'(by omega)).start < m[j].stop := by
  induction m with
  | nil => exact fun _ _ _ _ _ hj => absurd hj (by simp)
  | cons a m ih =>
    intro lo h i j hij hj
    obtain ⟨h1, h2, h3⟩ := Memory.wfFrom_cons.1 h
    cases i with
    | zero =>
      cases j with
      | zero => simpa using h2
      | succ j =>
        have := Memory.mem_bounds m a.stop h3 (m[j]'(by simpa using hj)) (List.getElem_mem _)
        simp only [List.getElem_cons_zero, List.getElem_cons_succ]
        bv_omega
    | succ i =>
      cases j with
      | zero => omega
      | succ j => simpa using ih a.stop h3 i j (by omega) (by simpa using hj)

/-! ### Every operation that writes the buffer keeps its form -/

/-- What `memAppend` can do: discard the bit when the buffer is full, write it otherwise. -/
theorem memAppend_cases (b : BitRecord) (s : State) :
    (bufferFull s = true ∧ memAppend b s = noteOverflow s)
      ∨ (bufferFull s = false ∧ memAppend b s = memWrite b s) := by
  unfold memAppend
  cases h : bufferFull s <;> simp

theorem bufferFull_unbounded {s : State} (h : s.build.bitCapacity = none) : bufferFull s = false := by
  simp [bufferFull, h]

/-- There is room exactly when the buffer holds fewer records than a bounded capacity. -/
theorem bufferFull_eq_false {s : State} :
    bufferFull s = false ↔ ∀ c, s.build.bitCapacity = some c → nbits s < c := by
  unfold bufferFull
  split
  · rename_i h
    simp only [h, reduceCtorEq, false_implies, implies_true]
  · rename_i c h
    rw [h]
    constructor
    · intro hf c' hc
      cases hc
      exact Nat.lt_of_not_le (of_decide_eq_false hf)
    · exact fun hl => decide_eq_false (Nat.not_le_of_lt (hl c rfl))

theorem bufferFull_eq_true {s : State} :
    bufferFull s = true ↔ ∃ c, s.build.bitCapacity = some c ∧ c ≤ nbits s := by
  unfold bufferFull
  split
  · rename_i h
    simp only [h, reduceCtorEq, false_and, exists_false, Bool.false_eq_true]
  · rename_i c h
    rw [h]
    constructor
    · exact fun hf => ⟨c, rfl, of_decide_eq_true hf⟩
    · rintro ⟨c', hc, hl⟩
      cases hc
      exact decide_eq_true hl

@[simp] theorem bufferFull_addDemodErr (a b : Sample) (s : State) :
    bufferFull (addDemodErr a b s) = bufferFull s := rfl

theorem memAppend_room {b : BitRecord} {s : State} (h : bufferFull s = false) :
    memAppend b s = memWrite b s := by simp [memAppend, h]

theorem memAppend_full {b : BitRecord} {s : State} (h : bufferFull s = true) :
    memAppend b s = noteOverflow s := by simp [memAppend, h]

/-! ### What `memAppend` leaves: everything but the bits, `f_ovf` and STATUS.OVERFLOW -/

@[simp] theorem memAppend_build (b : BitRecord) (s : State) : (memAppend b s).build = s.build := by
  rcases memAppend_cases b s with ⟨-, h⟩ | ⟨-, h⟩ <;> rw [h] <;> rfl
@[simp] theorem memAppend_cfg (b : BitRecord) (s : State) : (memAppend b s).cfg = s.cfg := by
  rcases memAppend_cases b s with ⟨-, h⟩ | ⟨-, h⟩ <;> rw [h] <;> rfl
@[simp] theorem memAppend_phase (b : BitRecord) (s : State) : (memAppend b s).phase = s.phase := by
  rcases memAppend_cases b s with ⟨-, h⟩ | ⟨-, h⟩ <;> rw [h] <;> rfl
@[simp] theorem memAppend_par (b : BitRecord) (s : State) : (memAppend b s).par = s.par := by
  rcases memAppend_cases b s with ⟨-, h⟩ | ⟨-, h⟩ <;> rw [h] <;> rfl
@[simp] theorem memAppend_out (b : BitRecord) (s : State) : (memAppend b s).out = s.out := by
  rcases memAppend_cases b s with ⟨-, h⟩ | ⟨-, h⟩ <;> rw [h] <;> rfl
@[simp] theorem memAppend_outBase (b : BitRecord) (s : State) : (memAppend b s).outBase = s.outBase := by
  rcases memAppend_cases b s with ⟨-, h⟩ | ⟨-, h⟩ <;> rw [h] <;> rfl
@[simp] theorem memAppend_rdata (b : BitRecord) (s : State) : (memAppend b s).rdata = s.rdata := by
  rcases memAppend_cases b s with ⟨-, h⟩ | ⟨-, h⟩ <;> rw [h] <;> rfl
@[simp] theorem memAppend_symdecOut (b : BitRecord) (s : State) : (memAppend b s).symdecOut = s.symdecOut := by
  rcases memAppend_cases b s with ⟨-, h⟩ | ⟨-, h⟩ <;> rw [h] <;> rfl
@[simp] theorem memAppend_chooseOut (b : BitRecord) (s : State) : (memAppend b s).chooseOut = s.chooseOut := by
  rcases memAppend_cases b s with ⟨-, h⟩ | ⟨-, h⟩ <;> rw [h] <;> rfl
@[simp] theorem memAppend_pending (b : BitRecord) (s : State) : (memAppend b s).pending = s.pending := by
  rcases memAppend_cases b s with ⟨-, h⟩ | ⟨-, h⟩ <;> rw [h] <;> rfl
@[simp] theorem memAppend_isOpen (b : BitRecord) (s : State) : (memAppend b s).win.isOpen = s.win.isOpen := by
  rcases memAppend_cases b s with ⟨-, h⟩ | ⟨-, h⟩ <;> rw [h] <;> rfl
@[simp] theorem memAppend_firstT (b : BitRecord) (s : State) : (memAppend b s).win.firstT = s.win.firstT := by
  rcases memAppend_cases b s with ⟨-, h⟩ | ⟨-, h⟩ <;> rw [h] <;> rfl
@[simp] theorem memAppend_prevT (b : BitRecord) (s : State) : (memAppend b s).win.prevT = s.win.prevT := by
  rcases memAppend_cases b s with ⟨-, h⟩ | ⟨-, h⟩ <;> rw [h] <;> rfl
@[simp] theorem memAppend_level (b : BitRecord) (s : State) : (memAppend b s).win.level = s.win.level := by
  rcases memAppend_cases b s with ⟨-, h⟩ | ⟨-, h⟩ <;> rw [h] <;> rfl
@[simp] theorem memAppend_halfPending (b : BitRecord) (s : State) : (memAppend b s).win.halfPending = s.win.halfPending := by
  rcases memAppend_cases b s with ⟨-, h⟩ | ⟨-, h⟩ <;> rw [h] <;> rfl
@[simp] theorem memAppend_halfStart (b : BitRecord) (s : State) : (memAppend b s).win.halfStart = s.win.halfStart := by
  rcases memAppend_cases b s with ⟨-, h⟩ | ⟨-, h⟩ <;> rw [h] <;> rfl
@[simp] theorem memAppend_demodErrs (b : BitRecord) (s : State) : (memAppend b s).win.demodErrs = s.win.demodErrs := by
  rcases memAppend_cases b s with ⟨-, h⟩ | ⟨-, h⟩ <;> rw [h] <;> rfl
@[simp] theorem memAppend_started (b : BitRecord) (s : State) : (memAppend b s).status.started = s.status.started := by
  rcases memAppend_cases b s with ⟨-, h⟩ | ⟨-, h⟩ <;> rw [h] <;> rfl
@[simp] theorem memAppend_fatal (b : BitRecord) (s : State) : (memAppend b s).status.fatal = s.status.fatal := by
  rcases memAppend_cases b s with ⟨-, h⟩ | ⟨-, h⟩ <;> rw [h] <;> rfl
@[simp] theorem memAppend_inputErr (b : BitRecord) (s : State) : (memAppend b s).status.inputErr = s.status.inputErr := by
  rcases memAppend_cases b s with ⟨-, h⟩ | ⟨-, h⟩ <;> rw [h] <;> rfl
@[simp] theorem memAppend_badev (b : BitRecord) (s : State) : (memAppend b s).status.badev = s.status.badev := by
  rcases memAppend_cases b s with ⟨-, h⟩ | ⟨-, h⟩ <;> rw [h] <;> rfl
@[simp] theorem memAppend_trunc (b : BitRecord) (s : State) : (memAppend b s).flags.trunc = s.flags.trunc := by
  rcases memAppend_cases b s with ⟨-, h⟩ | ⟨-, h⟩ <;> rw [h] <;> rfl
@[simp] theorem memAppend_badsym (b : BitRecord) (s : State) : (memAppend b s).flags.badsym = s.flags.badsym := by
  rcases memAppend_cases b s with ⟨-, h⟩ | ⟨-, h⟩ <;> rw [h] <;> rfl
@[simp] theorem memAppend_crc (b : BitRecord) (s : State) : (memAppend b s).flags.crc = s.flags.crc := by
  rcases memAppend_cases b s with ⟨-, h⟩ | ⟨-, h⟩ <;> rw [h] <;> rfl
@[simp] theorem memAppend_noeop (b : BitRecord) (s : State) : (memAppend b s).flags.noeop = s.flags.noeop := by
  rcases memAppend_cases b s with ⟨-, h⟩ | ⟨-, h⟩ <;> rw [h] <;> rfl

theorem memAppend_keeps_wf {lo : Sample} {b : BitRecord} {s : State}
    (hw : Memory.wfFrom lo s.win.bits = true) (he : Memory.endFrom lo s.win.bits ≤ b.start)
    (hb : b.start < b.stop) : Memory.wfFrom lo (memAppend b s).win.bits = true := by
  rcases memAppend_cases b s with ⟨-, h⟩ | ⟨-, h⟩ <;> rw [h]
  · simpa using hw
  · simpa using Memory.wfFrom_append hb _ _ hw he

theorem openWindow_wf (t : Sample) (l : Bool) (s : State) : Memory.wf (openWindow t l s).win.bits = true :=
  rfl

theorem clearWindow_wf (s : State) : Memory.wf (clearWindow s).win.bits = true := rfl

theorem doReset_wf (s : State) : Memory.wf (doReset s).win.bits = true := rfl

theorem closeWindow_wf (s : State) : Memory.wf (closeWindow s).win.bits = true := by simp [Memory.wf, Memory.wfFrom]

theorem reset_wf : Memory.wf State.reset.win.bits = true := rfl

/-- The work on a closed window never writes the buffer (20_memory.md R43 (b)). -/
theorem closeWork_bits (s : State) : (closeWork s).win.bits = s.win.bits := by rw [(closeWork_frame s).win]

/-! ### Reading -/

theorem bitsValue_lt (bs : List Bool) : bitsValue bs < 2 ^ bs.length := by
  induction bs with
  | nil => simp [bitsValue]
  | cons b bs ih =>
    have : b.toNat ≤ 1 := Bool.toNat_le b
    simp only [bitsValue, List.length_cons, Nat.pow_succ]
    omega

/-- Bit j of the value of a list of bits is element j. -/
theorem bitsValue_testBit (bs : List Bool) : ∀ j, (bitsValue bs).testBit j = bs.getD j false := by
  induction bs with
  | nil => simp [bitsValue]
  | cons b bs ih =>
    intro j
    cases j with
    | zero => cases b <;> simp [bitsValue, Nat.testBit_zero, Nat.add_mod]
    | succ j =>
      have h : (b.toNat + 2 * bitsValue bs) / 2 = bitsValue bs := by
        have : b.toNat ≤ 1 := Bool.toNat_le b
        omega
      simp only [bitsValue, Nat.testBit_succ, h, ih, List.getD_cons_succ]

/-- Bit j of `MemRead(k, n)` is the value of bit record k + j (00_scope.md R10). -/
theorem memRead_getLsbD (m : Memory) (k n j : Nat) (hj : j < n) :
    (memRead m k n).getLsbD j = (m.map BitRecord.value).getD (k + j) false := by
  simp only [memRead, BitVec.getLsbD_ofNat, hj, decide_true, Bool.true_and, bitsValue_testBit]
  simp [List.getD_eq_getElem?_getD, hj]

/-- `MemRead` depends only on the values of the records. -/
theorem memRead_eq_of_values {m m' : Memory} {k k' n : Nat}
    (h : ∀ j < n, (m.map BitRecord.value).getD (k + j) false = (m'.map BitRecord.value).getD (k' + j) false) :
    memRead m k n = memRead m' k' n := by
  apply BitVec.eq_of_getLsbD_eq
  intro j hj
  rw [memRead_getLsbD _ _ _ _ hj, memRead_getLsbD _ _ _ _ hj, h j hj]

/-- The code groups of the candidate at i are those at i, i + 5, i + 10 and i + 15 (30_encoding.md R51). -/
theorem candidateCode_candidateAt (s : State) (i j : Nat) (hj : j < 4) :
    candidateCode (candidateAt s i) j = codeAt s (i + 5 * j) := by
  apply BitVec.eq_of_getLsbD_eq
  intro a ha
  simp only [candidateCode, candidateAt, codeAt, BitVec.getLsbD_extractLsb', ha, decide_true, Bool.true_and]
  rw [memRead_getLsbD _ _ _ _ (by omega), memRead_getLsbD _ _ _ _ ha]
  congr 1
  omega

end Sys2Proof.Machine
end

