-- ==== Sys2Proof/Laws/Recovery.lean ====
section
/-! SUPPORT. Bit recovery: what a gap can do, case by case, and the classes of a gap. -/

namespace Sys2Proof.Machine

/-! ### The classes of a gap (41_bit_recovery.md R70) -/

theorem gapClass_idle {c : CfgRegs} {g : Sample} (h : c.thrIdle < g) : gapClass c g = .idle := by
  simp [gapClass, h]

theorem gapClass_badLow {c : CfgRegs} {g : Sample} (hi : g ≤ c.thrIdle) (h : g < c.thrShortMin) :
    gapClass c g = .badLow := by
  have : ¬ c.thrIdle < g := by bv_omega
  simp [gapClass, this, h]

theorem gapClass_short {c : CfgRegs} {g : Sample} (hi : g ≤ c.thrIdle) (hm : c.thrShortMin ≤ g)
    (h : g ≤ c.thrSplit) : gapClass c g = .short := by
  have h1 : ¬ c.thrIdle < g := by bv_omega
  have h2 : ¬ g < c.thrShortMin := by bv_omega
  simp [gapClass, h1, h2, h]

theorem gapClass_long {c : CfgRegs} {g : Sample} (hi : g ≤ c.thrIdle) (hm : c.thrShortMin ≤ g)
    (hs : c.thrSplit < g) (h : g ≤ c.thrLongMax) : gapClass c g = .long := by
  have h1 : ¬ c.thrIdle < g := by bv_omega
  have h2 : ¬ g < c.thrShortMin := by bv_omega
  have h3 : ¬ g ≤ c.thrSplit := by bv_omega
  simp [gapClass, h1, h2, h3, h]

theorem gapClass_badHigh {c : CfgRegs} {g : Sample} (hi : g ≤ c.thrIdle) (hm : c.thrShortMin ≤ g)
    (hs : c.thrSplit < g) (h : c.thrLongMax < g) : gapClass c g = .badHigh := by
  have h1 : ¬ c.thrIdle < g := by bv_omega
  have h2 : ¬ g < c.thrShortMin := by bv_omega
  have h3 : ¬ g ≤ c.thrSplit := by bv_omega
  have h4 : ¬ g ≤ c.thrLongMax := by bv_omega
  simp [gapClass, h1, h2, h3, h4]

/-- A gap is of class IDLE exactly beyond the idle limit. -/
theorem gapClass_eq_idle {c : CfgRegs} {g : Sample} : gapClass c g = .idle ↔ c.thrIdle < g := by
  constructor
  · intro h
    by_contra hn
    simp only [gapClass, hn, if_false] at h
    split at h
    · cases h
    · split at h
      · cases h
      · split at h <;> cases h
  · exact gapClass_idle

/-! ### What a gap within the idle limit can do -/

/-- The operation a gap within the idle limit runs, by its class (41_bit_recovery.md R72 to R76). -/
def gapOp (t : Sample) (s : State) : State :=
  match gapClass s.cfg (t - s.win.prevT) with
  | .idle => s
  | .short => shortGap t s
  | .long => longGap t s
  | .badLow => badGap t s
  | .badHigh => badGap t s

theorem edgeGap_timed {t : Sample} {l : Bool} {s : State} (h : t - s.win.prevT ≤ s.cfg.thrIdle) :
    edgeGap t l s = advanceEdge t l (gapOp t s) := by
  have hn : gapClass s.cfg (t - s.win.prevT) ≠ .idle := fun e => by
    have := gapClass_eq_idle.1 e
    bv_omega
  unfold edgeGap gapOp
  cases hc : gapClass s.cfg (t - s.win.prevT) <;> simp_all

theorem edgeGap_idle {t : Sample} {l : Bool} {s : State} (h : s.cfg.thrIdle < t - s.win.prevT) :
    edgeGap t l s = openWindow t l (closeWindow s) := by
  simp [edgeGap, gapClass_idle h]

/-- A SHORT gap: a first half, or the second half of a "1" (41_bit_recovery.md R72, R73). -/
theorem shortGap_cases (t : Sample) (s : State) :
    (s.win.halfPending = false ∧ shortGap t s = setHalf s s.win.prevT)
      ∨ (s.win.halfPending = true ∧ shortGap t s = clearHalf (memAppend ⟨true, s.win.halfStart, t⟩ s)) := by
  unfold shortGap
  cases h : s.win.halfPending <;> simp

/-- A LONG gap: a "0", after one error when a half is pending (41_bit_recovery.md R74, R75). -/
theorem longGap_cases (t : Sample) (s : State) :
    (s.win.halfPending = false ∧ longGap t s = memAppend ⟨false, s.win.prevT, t⟩ s)
      ∨ (s.win.halfPending = true ∧ longGap t s =
          clearHalf (memAppend ⟨false, s.win.prevT, t⟩ (addDemodErr s.win.halfStart t s))) := by
  unfold longGap
  cases h : s.win.halfPending <;> simp

/-- What bit recovery can change: the window's half-one state, its bits and its errors, and on a discarded
bit `f_ovf` and STATUS.OVERFLOW. -/
structure RecoveryFrame (s u : State) : Prop where
  build : u.build = s.build
  cfg : u.cfg = s.cfg
  phase : u.phase = s.phase
  par : u.par = s.par
  out : u.out = s.out
  outBase : u.outBase = s.outBase
  rdata : u.rdata = s.rdata
  symdecOut : u.symdecOut = s.symdecOut
  chooseOut : u.chooseOut = s.chooseOut
  pending : u.pending = s.pending
  isOpen : u.win.isOpen = s.win.isOpen
  firstT : u.win.firstT = s.win.firstT
  prevT : u.win.prevT = s.win.prevT
  level : u.win.level = s.win.level
  overflowOnly : (u.flags = s.flags ∧ u.status = s.status)
    ∨ (bufferFull s = true ∧ u.win.bits = s.win.bits
        ∧ u.flags = { s.flags with ovf := true } ∧ u.status = { s.status with overflow := true })

theorem RecoveryFrame.refl (s : State) : RecoveryFrame s s :=
  ⟨rfl, rfl, rfl, rfl, rfl, rfl, rfl, rfl, rfl, rfl, rfl, rfl, rfl, rfl, .inl ⟨rfl, rfl⟩⟩

theorem memAppend_recovery (b : BitRecord) (s : State) : RecoveryFrame s (memAppend b s) := by
  rcases memAppend_cases b s with ⟨hf, h⟩ | ⟨-, h⟩ <;> rw [h]
  · exact ⟨rfl, rfl, rfl, rfl, rfl, rfl, rfl, rfl, rfl, rfl, rfl, rfl, rfl, rfl, .inr ⟨hf, rfl, rfl, rfl⟩⟩
  · exact ⟨rfl, rfl, rfl, rfl, rfl, rfl, rfl, rfl, rfl, rfl, rfl, rfl, rfl, rfl, .inl ⟨rfl, rfl⟩⟩

theorem RecoveryFrame.clearHalf {s u : State} (h : RecoveryFrame s u) : RecoveryFrame s (clearHalf u) :=
  ⟨h.build, h.cfg, h.phase, h.par, h.out, h.outBase, h.rdata, h.symdecOut, h.chooseOut, h.pending, h.isOpen,
    h.firstT, h.prevT, h.level, h.overflowOnly⟩

theorem RecoveryFrame.ofAddDemodErr {a b : Sample} {s u : State} (h : RecoveryFrame (addDemodErr a b s) u) :
    RecoveryFrame s u :=
  ⟨h.build, h.cfg, h.phase, h.par, h.out, h.outBase, h.rdata, h.symdecOut, h.chooseOut, h.pending, h.isOpen,
    h.firstT, h.prevT, h.level, h.overflowOnly⟩

theorem setHalf_recovery (s : State) (v : Sample) : RecoveryFrame s (setHalf s v) :=
  ⟨rfl, rfl, rfl, rfl, rfl, rfl, rfl, rfl, rfl, rfl, rfl, rfl, rfl, rfl, .inl ⟨rfl, rfl⟩⟩

theorem shortGap_recovery (t : Sample) (s : State) : RecoveryFrame s (shortGap t s) := by
  rcases shortGap_cases t s with ⟨-, h⟩ | ⟨-, h⟩ <;> rw [h]
  · exact setHalf_recovery _ _
  · exact (memAppend_recovery _ _).clearHalf

theorem longGap_recovery (t : Sample) (s : State) : RecoveryFrame s (longGap t s) := by
  rcases longGap_cases t s with ⟨-, h⟩ | ⟨-, h⟩ <;> rw [h]
  · exact memAppend_recovery _ _
  · exact ((memAppend_recovery _ _).ofAddDemodErr).clearHalf

theorem badGap_recovery (t : Sample) (s : State) : RecoveryFrame s (badGap t s) :=
  ((memAppend_recovery _ _).ofAddDemodErr).clearHalf

theorem gapOp_recovery (t : Sample) (s : State) : RecoveryFrame s (gapOp t s) := by
  unfold gapOp
  split
  · exact .refl s
  · exact shortGap_recovery t s
  · exact longGap_recovery t s
  · exact badGap_recovery t s
  · exact badGap_recovery t s

end Sys2Proof.Machine
end

