-- ==== Sys2Proof/Laws/Sync.lean ====
section
/-! SUPPORT. The synchronizer: what the scan can answer, and what CHOOSE can answer. -/

namespace Sys2Proof.Machine

/-- What `scanFrom` can answer when it finds: the first accepted offset among those it tries. -/
theorem scanFrom_some {s : State} {h : SyncHit} (n : Nat) : ∀ i, scanFrom s n i = some h ↔
    i ≤ h.off ∧ h.off < i + n ∧ chooseAt s h.off = some h.row ∧ ∀ j, i ≤ j → j < h.off → chooseAt s j = none := by
  induction n with
  | zero => intro i; simp only [scanFrom]; constructor
            · intro h; cases h
            · rintro ⟨h1, h2, -⟩; omega
  | succ n ih =>
    intro i
    simp only [scanFrom]
    cases hc : chooseAt s i with
    | some r =>
      constructor
      · rintro ⟨⟩
        exact ⟨Nat.le_refl _, by simp, hc, fun j h1 h2 => absurd h2 (by simpa using h1)⟩
      · rintro ⟨h1, h2, h3, h4⟩
        have : h.off = i := by
          by_contra hne
          have := h4 i (Nat.le_refl _) (by omega)
          rw [hc] at this
          cases this
        cases h
        simp only at this h3
        subst this
        rw [hc] at h3
        cases h3
        rfl
    | none =>
      simp only [ih]
      constructor
      · rintro ⟨h1, h2, h3, h4⟩
        refine ⟨by omega, by omega, h3, fun j hj hj' => ?_⟩
        rcases Nat.eq_or_lt_of_le hj with rfl | hj
        · exact hc
        · exact h4 j hj hj'
      · rintro ⟨h1, h2, h3, h4⟩
        have : h.off ≠ i := fun e => by rw [e, hc] at h3; cases h3
        exact ⟨by omega, by omega, h3, fun j hj hj' => h4 j (by omega) hj'⟩

theorem scanFrom_none {s : State} (n : Nat) : ∀ i, scanFrom s n i = none ↔
    ∀ j, i ≤ j → j < i + n → chooseAt s j = none := by
  induction n with
  | zero => intro i; simp only [scanFrom, true_iff]; intro j h1 h2; omega
  | succ n ih =>
    intro i
    simp only [scanFrom]
    cases hc : chooseAt s i with
    | some r =>
      simp only [reduceCtorEq, false_iff]
      intro h
      rw [h i (Nat.le_refl _) (by omega)] at hc
      cases hc
    | none =>
      simp only [ih]
      constructor
      · intro h j h1 h2
        rcases Nat.eq_or_lt_of_le h1 with rfl | h1
        · exact hc
        · exact h j h1 (by omega)
      · exact fun h j h1 h2 => h j (by omega) (by omega)

/-- CHOOSE accepts only rows of the table that match in all or at least SOP_MIN_MATCH positions. -/
theorem choose_some {b : Build} {k : BitVec 3} {p : Candidate} {r : SopRow} (h : choose b k p = some r) :
    r ∈ b.sopTable ∧ (rowMatches b p r = 4 ∨ k.toNat ≤ rowMatches b p r) := by
  unfold choose at h
  split at h
  · rename_i r' hf
    cases h
    exact ⟨List.mem_of_find?_eq_some hf, .inl (by simpa using List.find?_some hf)⟩
  · exact ⟨List.mem_of_find?_eq_some h, .inr (by simpa using List.find?_some h)⟩

theorem positionMatch_le (b : Build) (p : Candidate) (j : Nat) (w : Sym) : positionMatch b p j w ≤ 1 := by
  unfold positionMatch
  split <;> omega

theorem rowMatches_le (b : Build) (p : Candidate) (r : SopRow) : rowMatches b p r ≤ 4 := by
  have h0 := positionMatch_le b p 0 r.sym0
  have h1 := positionMatch_le b p 1 r.sym1
  have h2 := positionMatch_le b p 2 r.sym2
  have h3 := positionMatch_le b p 3 r.sym3
  unfold rowMatches
  omega

end Sys2Proof.Machine
end

