-- ==== Sys2Proof/Laws/Events.lean ====
section
/-! SUPPORT. What an instruction and a step can do: one inversion lemma each. -/

namespace Sys2Proof.Machine

/-- What the guards of an EDGE or TICK let through: nothing in the fatal stop; the fatal entry when the
start check fails; otherwise `k`, from the state with STARTED set. -/
theorem guarded_cases (t : Sample) (k : State → State) (s : State) :
    (s.status.fatal = true ∧ unlessFatal (withStartCheck t k) s = s)
      ∨ (s.status.fatal = false ∧ s.status.started = false ∧ cfgValid s.cfg = false
          ∧ unlessFatal (withStartCheck t k) s = enterFatal t s)
      ∨ (s.status.fatal = false ∧ s.status.started = false ∧ cfgValid s.cfg = true
          ∧ unlessFatal (withStartCheck t k) s = k (setStarted s))
      ∨ (s.status.fatal = false ∧ s.status.started = true
          ∧ unlessFatal (withStartCheck t k) s = k s) := by
  unfold unlessFatal withStartCheck
  cases s.status.fatal <;> cases s.status.started <;> cases cfgValid s.cfg <;> simp

theorem guarded_started {t : Sample} {k : State → State} {s : State} (hf : s.status.fatal = false)
    (hs : s.status.started = true) : unlessFatal (withStartCheck t k) s = k s := by
  simp [unlessFatal, withStartCheck, hf, hs]

/-- What an EDGE does once the block is started (40_input_events.md R62). -/
theorem edgeStarted_cases (t : Sample) (l : Bool) (s : State) :
    (s.win.level = some l ∧ edgeStarted t l s = s)
      ∨ (s.win.level ≠ some l ∧ s.win.isOpen = false ∧ edgeStarted t l s = openWindow t l s)
      ∨ (s.win.level ≠ some l ∧ s.win.isOpen = true ∧ t ≤ s.win.prevT ∧ edgeStarted t l s = setInputErr s)
      ∨ (s.win.level ≠ some l ∧ s.win.isOpen = true ∧ s.win.prevT < t
          ∧ s.cfg.thrIdle < t - s.win.prevT ∧ edgeStarted t l s = openWindow t l (closeWindow s))
      ∨ (s.win.level ≠ some l ∧ s.win.isOpen = true ∧ s.win.prevT < t
          ∧ t - s.win.prevT ≤ s.cfg.thrIdle ∧ edgeStarted t l s = advanceEdge t l (gapOp t s)) := by
  unfold edgeStarted qualifying
  by_cases hl : s.win.level = some l
  · simp [hl]
  · cases ho : s.win.isOpen
    · simp [hl]
    · by_cases ht : t ≤ s.win.prevT
      · simp [hl, ht]
      · have hlt : s.win.prevT < t := by bv_omega
        by_cases hi : s.cfg.thrIdle < t - s.win.prevT
        · simp [hl, ht, hlt, hi, edgeGap_idle hi]
        · have hle : t - s.win.prevT ≤ s.cfg.thrIdle := by bv_omega
          simp [hl, ht, hlt, hi, hle, edgeGap_timed hle]

/-- What a TICK does once the block is started (40_input_events.md R63). -/
theorem tickStarted_cases (t : Sample) (s : State) :
    (s.win.isOpen = false ∧ tickStarted t s = s)
      ∨ (s.win.isOpen = true ∧ t < s.win.prevT ∧ tickStarted t s = setInputErr s)
      ∨ (s.win.isOpen = true ∧ s.IdleAt t ∧ tickStarted t s = forgetLevel (closeWindow s))
      ∨ (s.win.isOpen = true ∧ s.win.prevT ≤ t ∧ t - s.win.prevT ≤ s.cfg.thrIdle ∧ tickStarted t s = s) := by
  unfold tickStarted State.IdleAt
  cases ho : s.win.isOpen
  · simp
  · by_cases ht : t < s.win.prevT
    · simp [ht]
    · have hle : s.win.prevT ≤ t := by bv_omega
      by_cases hi : s.cfg.thrIdle < t - s.win.prevT
      · simp [ht, hi, hle]
      · have : t - s.win.prevT ≤ s.cfg.thrIdle := by bv_omega
        simp [ht, hi, hle, this]

/-- What an instruction can do: one of the four events, an access of the configuration port, or a table
access, which writes the model's result fields only. -/
theorem exec_next_cases {i : Instr} {s t : State} (h : exec i s = .next t) :
    (∃ T l, i = .edge T l ∧ t = unlessFatal (withStartCheck T (edgeStarted T l)) s)
      ∨ (∃ T, i = .tick T ∧ t = unlessFatal (withStartCheck T (tickStarted T)) s)
      ∨ (i = .eos ∧ t = unlessFatal (fun s => forgetLevel (clearWindow s)) s)
      ∨ (i = .rsvd ∧ t = unlessFatal setBadev s)
      ∨ (∃ a v, i = .cfgw a v
          ∧ t = if s.status.started then s else { s with cfg := writeCfg (cfgRegAt a) v s.cfg })
      ∨ (∃ a, i = .cfgr a ∧ t = { s with rdata := readCfg (cfgRegAt a) s })
      ∨ (i.checkTime = none ∧ ¬ i.isEvent
          ∧ ∃ r c, t = { s with symdecOut := r, chooseOut := c }) := by
  cases i with
  | edge T l => exact .inl ⟨T, l, rfl, by cases h; rfl⟩
  | tick T => exact .inr (.inl ⟨T, rfl, by cases h; rfl⟩)
  | eos => exact .inr (.inr (.inl ⟨rfl, by cases h; rfl⟩))
  | rsvd => exact .inr (.inr (.inr (.inl ⟨rfl, by cases h; rfl⟩)))
  | cfgw a v => exact .inr (.inr (.inr (.inr (.inl ⟨a, v, rfl, by cases h; rfl⟩))))
  | cfgr a => exact .inr (.inr (.inr (.inr (.inr (.inl ⟨a, rfl, by cases h; rfl⟩)))))
  | _ => exact .inr (.inr (.inr (.inr (.inr (.inr ⟨rfl, id, _, _, (by cases h; rfl)⟩)))))

/-- No instruction faults and none is refused: every one answers a next state. -/
theorem exec_is_next (i : Instr) (s : State) : ∃ t, exec i s = .next t := by
  cases i <;> exact ⟨_, rfl⟩

/-- What one step can do: wait, take the reset input, or run the decoded instruction. -/
theorem step_next {s t : State} (h : step s = .next t) :
    (s.pending = [] ∧ t = s)
      ∨ (∃ rest, s.pending = .reset :: rest ∧ t = doReset { s with pending := rest })
      ∨ (∃ w rest i, s.pending = .word w :: rest ∧ decode w = .ok i ∧ exec i { s with pending := rest } = .next t) := by
  unfold step fetch at h
  cases hp : s.pending with
  | nil => simp [hp] at h; exact .inl ⟨rfl, h.symm⟩
  | cons i rest =>
    cases i with
    | reset => simp [hp] at h; exact .inr (.inl ⟨rest, rfl, h.symm⟩)
    | word w =>
      simp only [hp] at h
      cases hd : decode w with
      | ok i => simp only [hd] at h; exact .inr (.inr ⟨w, rest, i, rfl, hd, h⟩)
      | error e => simp [hd] at h

end Sys2Proof.Machine
end

