-- ==== Sys2Proof/Laws/PerInstr.lean ====
section
/-! SUPPORT. One family of lemmas, one lemma per instruction: the encoded word carries exactly the fixed bits
its row of spec/opcode_table.json gives it. -/

namespace Sys2Proof.Laws

/-- The fixed bits of an instruction's row of spec/opcode_table.json: the row's `match`, or for an access its
`op`. -/
def TableWord.rowMatch : Instr → Nat
  | .edge _ _ => 0
  | .tick _ => 0x20000000000000000
  | .eos => 0x40000000000000000
  | .rsvd => 0x60000000000000000
  | .cfgw _ _ => 1
  | .cfgr _ => 0
  | .code00Error => 0x00
  | .code01Error => 0x01
  | .code02Error => 0x02
  | .code03Error => 0x03
  | .code04Error => 0x04
  | .code05Error => 0x05
  | .code06Sync3 => 0x06
  | .code07Rst1 => 0x07
  | .code08Error => 0x08
  | .code09Data1 => 0x09
  | .code0AData4 => 0x0A
  | .code0BData5 => 0x0B
  | .code0CError => 0x0C
  | .code0DEop => 0x0D
  | .code0EData6 => 0x0E
  | .code0FData7 => 0x0F
  | .code10Error => 0x10
  | .code11Sync2 => 0x11
  | .code12Data8 => 0x12
  | .code13Data9 => 0x13
  | .code14Data2 => 0x14
  | .code15Data3 => 0x15
  | .code16DataA => 0x16
  | .code17DataB => 0x17
  | .code18Sync1 => 0x18
  | .code19Rst2 => 0x19
  | .code1ADataC => 0x1A
  | .code1BDataD => 0x1B
  | .code1CDataE => 0x1C
  | .code1DDataF => 0x1D
  | .code1EData0 => 0x1E
  | .code1FError => 0x1F
  | .sopk0Sop => 0x8E318
  | .sopk1Sop1 => 0x31B18
  | .sopk2Sop2 => 0x360D8
  | .sopk3Sop1Debug => 0x36738
  | .sopk4Sop2Debug => 0x89B38
  | .sopk5CableReset => 0x31F07
  | .sopk6HardReset => 0xC9CE7

/-- The instruction is well formed, and the fixed bits of its encoded word are those of its row: bits [66:65]
of an event word, `op` of an access, every bit of a code group or a candidate. -/
def TableWord.Statement (i : Instr) : Prop :=
  i.wf = true ∧
    match encode i with
    | .event w => w &&& (3#67 <<< 65) = BitVec.ofNat 67 (TableWord.rowMatch i)
    | .access op _ _ => op.toNat = TableWord.rowMatch i
    | .codeGroup c => c.toNat = TableWord.rowMatch i
    | .candidate p => p.toNat = TableWord.rowMatch i

/-- Masking an event word leaves its kind (30_encoding.md R46). -/
theorem eventWord_and_mask (k : BitVec 2) (l : Bool) (t : Sample) :
    eventWord k l t &&& (3#67 <<< 65) = k.setWidth 67 <<< 65 := by
  ext j hj
  simp only [eventWord, BitVec.getElem_and, BitVec.getElem_shiftLeft, BitVec.getElem_append]
  rcases (show j < 64 ∨ j = 64 ∨ j = 65 ∨ j = 66 by omega) with h | rfl | rfl | rfl
  · simp [h, show j < 65 by omega]
  · simp
  · simp
  · simp

theorem TableWord.edge (t : Sample) (l : Bool) : TableWord.Statement (.edge t l) :=
  ⟨rfl, (eventWord_and_mask 0 l t).trans (by simp [TableWord.rowMatch])⟩
theorem TableWord.tick (t : Sample) : TableWord.Statement (.tick t) :=
  ⟨rfl, (eventWord_and_mask 1 false t).trans (by simp [TableWord.rowMatch])⟩
theorem TableWord.eos : TableWord.Statement .eos :=
  ⟨rfl, (eventWord_and_mask 2 false 0).trans (by decide)⟩
theorem TableWord.rsvd : TableWord.Statement .rsvd :=
  ⟨rfl, (eventWord_and_mask 3 false 0).trans (by decide)⟩
theorem TableWord.cfgw (a v : Reg) : TableWord.Statement (.cfgw a v) := ⟨rfl, rfl⟩
theorem TableWord.cfgr (a : Reg) : TableWord.Statement (.cfgr a) := ⟨rfl, rfl⟩
theorem TableWord.code00Error : TableWord.Statement .code00Error := ⟨rfl, rfl⟩
theorem TableWord.code01Error : TableWord.Statement .code01Error := ⟨rfl, rfl⟩
theorem TableWord.code02Error : TableWord.Statement .code02Error := ⟨rfl, rfl⟩
theorem TableWord.code03Error : TableWord.Statement .code03Error := ⟨rfl, rfl⟩
theorem TableWord.code04Error : TableWord.Statement .code04Error := ⟨rfl, rfl⟩
theorem TableWord.code05Error : TableWord.Statement .code05Error := ⟨rfl, rfl⟩
theorem TableWord.code06Sync3 : TableWord.Statement .code06Sync3 := ⟨rfl, rfl⟩
theorem TableWord.code07Rst1 : TableWord.Statement .code07Rst1 := ⟨rfl, rfl⟩
theorem TableWord.code08Error : TableWord.Statement .code08Error := ⟨rfl, rfl⟩
theorem TableWord.code09Data1 : TableWord.Statement .code09Data1 := ⟨rfl, rfl⟩
theorem TableWord.code0AData4 : TableWord.Statement .code0AData4 := ⟨rfl, rfl⟩
theorem TableWord.code0BData5 : TableWord.Statement .code0BData5 := ⟨rfl, rfl⟩
theorem TableWord.code0CError : TableWord.Statement .code0CError := ⟨rfl, rfl⟩
theorem TableWord.code0DEop : TableWord.Statement .code0DEop := ⟨rfl, rfl⟩
theorem TableWord.code0EData6 : TableWord.Statement .code0EData6 := ⟨rfl, rfl⟩
theorem TableWord.code0FData7 : TableWord.Statement .code0FData7 := ⟨rfl, rfl⟩
theorem TableWord.code10Error : TableWord.Statement .code10Error := ⟨rfl, rfl⟩
theorem TableWord.code11Sync2 : TableWord.Statement .code11Sync2 := ⟨rfl, rfl⟩
theorem TableWord.code12Data8 : TableWord.Statement .code12Data8 := ⟨rfl, rfl⟩
theorem TableWord.code13Data9 : TableWord.Statement .code13Data9 := ⟨rfl, rfl⟩
theorem TableWord.code14Data2 : TableWord.Statement .code14Data2 := ⟨rfl, rfl⟩
theorem TableWord.code15Data3 : TableWord.Statement .code15Data3 := ⟨rfl, rfl⟩
theorem TableWord.code16DataA : TableWord.Statement .code16DataA := ⟨rfl, rfl⟩
theorem TableWord.code17DataB : TableWord.Statement .code17DataB := ⟨rfl, rfl⟩
theorem TableWord.code18Sync1 : TableWord.Statement .code18Sync1 := ⟨rfl, rfl⟩
theorem TableWord.code19Rst2 : TableWord.Statement .code19Rst2 := ⟨rfl, rfl⟩
theorem TableWord.code1ADataC : TableWord.Statement .code1ADataC := ⟨rfl, rfl⟩
theorem TableWord.code1BDataD : TableWord.Statement .code1BDataD := ⟨rfl, rfl⟩
theorem TableWord.code1CDataE : TableWord.Statement .code1CDataE := ⟨rfl, rfl⟩
theorem TableWord.code1DDataF : TableWord.Statement .code1DDataF := ⟨rfl, rfl⟩
theorem TableWord.code1EData0 : TableWord.Statement .code1EData0 := ⟨rfl, rfl⟩
theorem TableWord.code1FError : TableWord.Statement .code1FError := ⟨rfl, rfl⟩
theorem TableWord.sopk0Sop : TableWord.Statement .sopk0Sop := ⟨rfl, rfl⟩
theorem TableWord.sopk1Sop1 : TableWord.Statement .sopk1Sop1 := ⟨rfl, rfl⟩
theorem TableWord.sopk2Sop2 : TableWord.Statement .sopk2Sop2 := ⟨rfl, rfl⟩
theorem TableWord.sopk3Sop1Debug : TableWord.Statement .sopk3Sop1Debug := ⟨rfl, rfl⟩
theorem TableWord.sopk4Sop2Debug : TableWord.Statement .sopk4Sop2Debug := ⟨rfl, rfl⟩
theorem TableWord.sopk5CableReset : TableWord.Statement .sopk5CableReset := ⟨rfl, rfl⟩
theorem TableWord.sopk6HardReset : TableWord.Statement .sopk6HardReset := ⟨rfl, rfl⟩

end Sys2Proof.Laws
end

