-- ==== Sys2Proof/Laws/Window.lean ====
section
/-! SUPPORT. The close of a window as an equation: what each part of it appends to the output. -/

namespace Sys2Proof.Machine

/-- The state after the window-level warnings, from which the scan runs. -/
def afterWarnings (s : State) : State := raiseOverflow (raiseDemodErrs (setPhase .synchronizing s))

theorem raiseEach_eq (es : List (Sample × Sample)) : ∀ s : State,
    es.foldl (fun s e => raise .demodulationError groupNone 0 0 0 e s) s =
      { s with out := s.out ++ es.map fun e => ⟨e.1, e.2, .warning 1 15 0 0 0⟩ } := by
  induction es with
  | nil => intro s; simp
  | cons e es ih => intro s; rw [List.foldl_cons, ih]; simp [raise, emit, diagnosticKind, groupNone]

theorem raiseDemodErrs_eq (s : State) : raiseDemodErrs s = { s with out := s.out ++ demodWarnings s } :=
  raiseEach_eq s.win.demodErrs s

theorem raiseOverflow_eq (s : State) : raiseOverflow s = { s with out := s.out ++ overflowWarnings s } := by
  unfold raiseOverflow overflowWarnings
  cases s.flags.ovf <;> simp [raise, emit, diagnosticKind, groupNone, edgeSpan]

theorem dumpRawBits_eq (s : State) : dumpRawBits s = { s with out := s.out ++ rawRecords s } := by
  unfold dumpRawBits rawRecords
  cases s.cfg.rawdumpEn <;> simp [emit]

theorem afterWarnings_eq (s : State) :
    afterWarnings s = { s with phase := .synchronizing, out := s.out ++ windowWarnings s } := by
  simp [afterWarnings, raiseOverflow_eq, raiseDemodErrs_eq, setPhase, windowWarnings, demodWarnings,
    overflowWarnings]

theorem closeWork_eq (s : State) : closeWork s =
    { windowPath (afterWarnings s) with out := (windowPath (afterWarnings s)).out ++ rawRecords s } := by
  have h := (afterWarnings_eq s ▸ windowPath_frame (afterWarnings s) :)
  have hw : (windowPath (afterWarnings s)).win = s.win := by
    rw [(windowPath_frame _).win, afterWarnings_eq]
  have hc : (windowPath (afterWarnings s)).cfg = s.cfg := by
    rw [(windowPath_frame _).cfg, afterWarnings_eq]
  rw [show closeWork s = dumpRawBits (windowPath (afterWarnings s)) from rfl, dumpRawBits_eq]
  simp only [rawRecords, hw, hc]

/-! ### What the scan reads: the buffer, the tables and the threshold -/

theorem candidateAt_of_bits {s t : State} (hw : t.win.bits = s.win.bits) (i : Nat) :
    candidateAt t i = candidateAt s i := by simp only [candidateAt, hw]

theorem chooseAt_of_bits {s t : State} (hb : t.build = s.build) (hc : t.cfg = s.cfg)
    (hw : t.win.bits = s.win.bits) (i : Nat) : chooseAt t i = chooseAt s i := by
  simp only [chooseAt, hb, hc, candidateAt_of_bits hw]

theorem scanFrom_of_bits {s t : State} (hb : t.build = s.build) (hc : t.cfg = s.cfg)
    (hw : t.win.bits = s.win.bits) (n : Nat) : ∀ i, scanFrom t n i = scanFrom s n i := by
  induction n with
  | zero => exact fun _ => rfl
  | succ n ih => intro i; simp only [scanFrom, chooseAt_of_bits hb hc hw, ih]

theorem syncScan_of_bits {s t : State} (hb : t.build = s.build) (hc : t.cfg = s.cfg)
    (hw : t.win.bits = s.win.bits) : syncScan t = syncScan s := by
  simp only [syncScan, nbits, hw, scanFrom_of_bits hb hc hw]

@[simp] theorem syncScan_afterWarnings (s : State) : syncScan (afterWarnings s) = syncScan s := by
  rw [afterWarnings_eq]
  exact syncScan_of_bits rfl rfl rfl

/-- A hit has its 20 bits in the buffer (43_frame_sync.md R86). -/
theorem syncScan_fits {s : State} {h : SyncHit} (hs : syncScan s = some h) : h.off + 20 ≤ nbits s := by
  obtain ⟨-, h2, -, -⟩ := (scanFrom_some _ _).1 hs
  omega

/-! ### The three paths (46_window_output.md R110) -/

theorem windowPath_junk {s : State} (h : syncScan s = none) : windowPath s = junkOutput s := by
  unfold windowPath
  split
  · exact Eq.refl _
  · rename_i hs
    exact absurd (hs.symm.trans h) (by simp)

theorem acceptHit_sopKind (h : SyncHit) (s : State) : (acceptHit h s).par.sopKind = h.row.kind := rfl

theorem windowPath_reset {s : State} {h : SyncHit} (hs : syncScan s = some h)
    (hk : sopClass h.row.kind = .reset) : windowPath s = resetOutput (acceptHit h s) := by
  unfold windowPath
  split
  · rename_i hn
    exact absurd (hn.symm.trans hs) (by simp)
  · rename_i h' hs'
    cases hs'.symm.trans hs
    dsimp only
    rw [if_pos]
    exact decide_eq_true hk

theorem windowPath_frame_path {s : State} {h : SyncHit} (hs : syncScan s = some h)
    (hk : sopClass h.row.kind ≠ .reset) : windowPath s = frameOutput (acceptHit h s) := by
  unfold windowPath
  split
  · rename_i hn
    exact absurd (hn.symm.trans hs) (by simp)
  · rename_i h' hs'
    cases hs'.symm.trans hs
    dsimp only
    rw [if_neg]
    exact fun hr => hk (of_decide_eq_true hr)

theorem junkOutput_eq (s : State) : junkOutput s = { s with out := s.out ++
    [⟨s.win.firstT, s.win.prevT, .junk (nbits s) s.flags.ovf⟩,
     ⟨s.win.firstT, s.win.prevT, .warning 2 15 0 0 0⟩] } := by
  simp [junkOutput, raise, emit, diagnosticKind, groupNone, edgeSpan]

/-- A range with bits in it (46_window_output.md R122). -/
theorem range_of_lt {s : State} {a b : Nat} (h : a < b) : range s a b = (bitStart s a, bitEnd s (b - 1)) := by
  simp [range, h]

/-- The model's `range` is the span of the bit records themselves wherever 46_window_output.md R122 speaks. -/
theorem range_eq_bitSpan {s : State} {a b : Nat} (h : b ≤ nbits s) : range s a b = bitSpan s a b := by
  have hE : ∀ k, k + 1 = nbits s → bitEnd s k = windowEnd s := by
    intro k hk
    simp only [bitEnd, windowEnd, List.getLast?_eq_getElem?, List.getD_eq_getElem?_getD, List.getElem?_map,
      show s.win.bits.length - 1 = k from by simp only [nbits] at hk; omega]
    cases s.win.bits[k]? <;> rfl
  unfold range bitSpan
  split
  · rename_i hab
    have ha : a < s.win.bits.length := Nat.lt_of_lt_of_le hab h
    have hb : b - 1 < s.win.bits.length := Nat.lt_of_lt_of_le (by omega) h
    simp [bitStart, bitEnd, List.getElem?_eq_getElem ha, List.getElem?_eq_getElem hb]
  · split
    · rw [hE (nbits s - 1) (by omega)]
    · rename_i hn
      simp [windowEnd, List.eq_nil_of_length_eq_zero (Nat.le_zero.1 (Nat.not_lt.1 hn))]

theorem resetOutput_eq (s : State) : resetOutput s = { s with out := s.out ++
    [⟨bitStart s s.par.sopOff, bitEnd s (s.par.sopOff + 19),
      .reset s.par.sopKind s.par.sopMatches (nbits s)⟩] } := by
  simp [resetOutput, emit, range_of_lt (show s.par.sopOff < s.par.sopOff + 20 by omega)]

end Sys2Proof.Machine
end

