-- ==== Sys2Proof/Tests/Slice0.lean ====
section
/-! SUPPORT. The model's own tests: the well-formedness smoke test, the decoding of words written out from the
spec, one step of each instruction with the value the spec's own example gives, and for every statement with
hypotheses a concrete state and operands that meet them. -/

namespace Sys2Proof.Machine.Tests

/-! ### Well-formedness: an ill-formed term for each check -/

theorem test_wf_default : defaultBuild.wf = true := by decide

/-- A CODE_TABLE of 31 entries is no total map. -/
theorem test_wf_short_code_table :
    Build.wf { defaultBuild with codeTable := defaultCodeTable.drop 1 } = false := by decide

/-- Kind 7 is no row of 30_encoding.md R57. -/
theorem test_wf_unnamed_kind :
    Build.wf { defaultBuild with sopTable := [⟨.sync1, .sync1, .sync1, .sync2, 7⟩] } = false := by decide

/-- A row that holds ERROR is none of 43_frame_sync.md R85. -/
theorem test_wf_error_in_row :
    Build.wf { defaultBuild with sopTable := [⟨.sync1, .error, .sync1, .sync2, 0⟩] } = false := by decide

/-! ### Decoding, from words written out -/

/-- 30_encoding.md R46, R47: `K` bits [66:65], `L` bit [64], `T` bits [63:0]; the ignored fields are set. -/
theorem test_decode_events :
    [0x0_00000000000003E8, 0x1_00000000000003E8, 0x2_00000000000012AD, 0x3_00000000000012AD,
     0x4_FFFFFFFFFFFFFFFF, 0x5_FFFFFFFFFFFFFFFF, 0x6_0000000000000007, 0x7_0000000000000007].map
        (decodeTableWord 72) =
      [some (.edge 1000 false), some (.edge 1000 true), some (.tick 4781), some (.tick 4781), some .eos,
       some .eos, some .rsvd, some .rsvd] := by decide

/-- 30_encoding.md R48: op || addr || wdata; a read ignores `wdata`. -/
theorem test_decode_accesses :
    [0x1_0000000000000002_000000000000001E, 0x0_0000000000000006_0000000000000000,
     0x0_0000000000000006_FFFFFFFFFFFFFFFF].map (decodeTableWord 136) =
      [some (.cfgw 2 30), some (.cfgr 6), some (.cfgr 6)] := by decide

/-- 42_symbol_mapper.md R81: the 32 codes, in order. -/
theorem test_decode_code_groups :
    (List.range 32).map (decodeTableWord 8) =
      [some .code00Error, some .code01Error, some .code02Error, some .code03Error,
       some .code04Error, some .code05Error, some .code06Sync3, some .code07Rst1,
       some .code08Error, some .code09Data1, some .code0AData4, some .code0BData5,
       some .code0CError, some .code0DEop, some .code0EData6, some .code0FData7,
       some .code10Error, some .code11Sync2, some .code12Data8, some .code13Data9,
       some .code14Data2, some .code15Data3, some .code16DataA, some .code17DataB,
       some .code18Sync1, some .code19Rst2, some .code1ADataC, some .code1BDataD,
       some .code1CDataE, some .code1DDataF, some .code1EData0, some .code1FError] := by decide

/-- 43_frame_sync.md R84: the seven patterns, written as the codes of their four symbols, the last received
first. -/
theorem test_decode_candidates :
    [0b10001_11000_11000_11000, 0b00110_00110_11000_11000, 0b00110_11000_00110_11000,
     0b00110_11001_11001_11000, 0b10001_00110_11001_11000, 0b00110_00111_11000_00111,
     0b11001_00111_00111_00111].map (decodeTableWord 24) =
      [some .sopk0Sop, some .sopk1Sop1, some .sopk2Sop2, some .sopk3Sop1Debug, some .sopk4Sop2Debug,
       some .sopk5CableReset, some .sopk6HardReset] := by decide

/-- A 20-bit word that is no row is rejected by name. -/
theorem test_decode_non_row : decode (.candidate 0#20) = .error (.notAFrameStart 0) := by decide

/-! ### States -/

/-- The configuration of 41_bit_recovery.md's examples: a UI of 20 samples. -/
def cfg20 : CfgRegs := ⟨12000000, 1, 30, 60, 60, 3, false⟩

/-- A started block with no window open. -/
def started : State := { State.reset with cfg := cfg20, status := ⟨true, false, false, false, false⟩ }

/-- A started block with a window open from `first`, its last edge at `prev` to level 1. -/
def windowAt (first prev : Sample) (bits : Memory) : State :=
  { started with win := ⟨true, first, prev, some true, false, 0, bits, []⟩ }

/-- A window of one "0", as after `EDGE 1000 0`, `EDGE 1040 1`. -/
def oneBit : State := windowAt 1000 1040 [⟨false, 1000, 1040⟩]

/-- A window with a half pending, as after `EDGE 1000 0`, `EDGE 1020 1`. -/
def halfDone : State := { started with win := ⟨true, 1000, 1020, some true, true, 1000, [], []⟩ }

/-- A window that holds the bits of a BMC expansion from 1000. -/
def windowOf (bs : List Bool) : State :=
  windowAt 1000 (bmcEnd 1000 20 bs.length) (bmcRecords 20 1000 bs)

/-- The block in the fatal stop. -/
def stopped : State := { State.reset with status := ⟨false, true, false, false, false⟩ }

/-- The state an instruction leaves. -/
def after (i : Instr) (s : State) : State :=
  match exec i s with
  | .next t => t
  | .fault _ => s
  | .refused _ => s

theorem exec_eq_after (i : Instr) (s : State) : exec i s = .next (after i s) := by cases i <;> rfl

/-! ### One step of each instruction, from the spec's examples -/

/-- 41_bit_recovery.md R74: `prev_t` = 1040, `EDGE 1080`: bit 0 over [1040, 1080). -/
theorem test_edge_long :
    (after (.edge 1080 false) oneBit).win.bits = [⟨false, 1000, 1040⟩, ⟨false, 1040, 1080⟩] := by decide

/-- 41_bit_recovery.md R73: `half_start` = 1000, `prev_t` = 1020, `EDGE 1040`: bit 1 over [1000, 1040). -/
theorem test_edge_second_half :
    (after (.edge 1040 false) halfDone).win.bits = [⟨true, 1000, 1040⟩] := by decide

/-- 40_input_events.md R63: with `THR_IDLE` = 60, a TICK 60 samples on does nothing. -/
theorem test_tick_within : after (.tick 1100) oneBit = oneBit := by decide

/-- 41_bit_recovery.md R78, 46_window_output.md R112: one sample later the window closes as junk. -/
theorem test_tick_beyond : (after (.tick 1101) oneBit).out =
    [⟨1000, 1040, .junk 1 false⟩, ⟨1000, 1040, .warning 2 15 0 0 0⟩] := by decide

/-- 40_input_events.md R64: the window is dropped with no record. -/
theorem test_eos : (after .eos oneBit).win.isOpen = false ∧ (after .eos oneBit).out = [] := by decide

/-- 40_input_events.md R65: STATUS bit 3 and nothing else. -/
theorem test_rsvd : statusWord (after .rsvd State.reset) = 0x8 := by decide

/-- 40_input_events.md R60: after reset `CFGW 2 30` sets THR_SPLIT to 30; once started `CFGW 2 99` does not. -/
theorem test_cfgw : (after (.cfgw 2 30) State.reset).cfg.thrSplit = 30
    ∧ (after (.cfgw 2 99) started).cfg.thrSplit = 30 := by decide

/-- 40_input_events.md R61: after reset `CFGR 5` returns 3 and `CFGR 6` returns 0; with a window open
`CFGR 6` returns 0x21. -/
theorem test_cfgr : (after (.cfgr 5) State.reset).rdata = 3 ∧ (after (.cfgr 6) State.reset).rdata = 0
    ∧ (after (.cfgr 6) oneBit).rdata = 0x21 := by decide

/-- 40_input_events.md R66: after reset with no CFGW, `EDGE 100 1` emits FATAL and sets STATUS to 0x2. -/
theorem test_fatal : (after (.edge 100 true) State.reset).out = [⟨100, 100, .fatal 1⟩]
    ∧ statusWord (after (.edge 100 true) State.reset) = 0x2 := by decide

/-- 42_symbol_mapper.md R80: raw 0x1E gives sym 0x00. -/
theorem test_code_1E : (after .code1EData0 State.reset).symdecOut = ⟨0x1E, 0x00⟩ := by decide

/-- 42_symbol_mapper.md R81: raw 0x0D is EOP. -/
theorem test_code_0D : (after .code0DEop State.reset).symdecOut = ⟨0x0D, 0x16⟩ := by decide

/-- 43_frame_sync.md R84: row 6, a reset row. -/
theorem test_sopk6 : (after .sopk6HardReset State.reset).chooseOut = some ⟨6, .reset, 4⟩ := by decide

/-- 43_frame_sync.md R87: S1 S2 S3 S2 is accepted as SOP''_DEBUG with 3 matches. -/
theorem test_choose_fuzzy :
    chooseOf defaultBuild 3 0b10001_00110_10001_11000#20 = some ⟨4, .extended, 3⟩ := by decide

/-- 41_bit_recovery.md R70: gaps of 1, 30, 31, 60 and 61 samples. -/
theorem test_gap_classes : [1, 30, 31, 60, 61].map (gapClass cfg20) = [.short, .short, .long, .long, .idle] := by
  decide

/-- 00_scope.md R7: a half-cell of 5/3 us at 12 MHz is 20 samples, with the default tolerance and limit. -/
theorem test_host_conversion :
    hostConfig ⟨⟨5, 3⟩, ⟨3, 4⟩, ⟨3, 1⟩, 12000000, false⟩ = cfg20 := by decide

/-- 45_checksum.md R104: CRC32(43 02). -/
theorem test_crc : crc32 defaultCrc [0x43, 0x02] = 0x74836F15 := by decide +kernel

/-- 44_frame_parser.md R97: how the sentinel header 0x0BAD is split. -/
theorem test_header_fields :
    headerBody 0x0BAD true = ⟨0x0BAD, true, 13, 1, 2, 1, 5, 0, 0, false⟩ := by decide

/-- 46_window_output.md R121: bits 0, 1, 0 give the byte 0x02. -/
theorem test_raw_bytes :
    rawBytes [⟨false, 0, 1⟩, ⟨true, 1, 2⟩, ⟨false, 2, 3⟩] = [0x02] := by decide

/-! ### The invariant of the test states -/

/-- A state with no window open that is otherwise as after reset meets the invariant, whatever its
configuration and STATUS say that fits together. -/
theorem inv_closed {c : CfgRegs} {u : StatusBits} (hv : u.started = true → cfgValid c = true)
    (hf : u.fatal = true → u.started = false) : State.Inv { State.reset with cfg := c, status := u } :=
  ⟨(by decide : defaultBuild.wf = true), ⟨rfl, rfl, hv, hf⟩, fun _ => ⟨rfl, rfl, rfl, rfl⟩, (nomatch ·),
    ⟨fun _ => (nomatch ·), (nomatch ·)⟩, Nat.le_refl _⟩

theorem inv_started : started.Inv := inv_closed (fun _ => by decide) ((nomatch ·))

/-- The block in the fatal stop meets the invariant. -/
theorem inv_stopped : stopped.Inv := inv_closed ((nomatch ·)) (fun _ => rfl)

/-- A window of ordered bits meets the invariant. -/
theorem inv_windowAt {first prev : Sample} {bits : Memory} (hw : Memory.wfFrom first bits = true)
    (he : Memory.endFrom first bits ≤ prev) (hf : first ≤ prev) : (windowAt first prev bits).Inv :=
  ⟨(by decide : defaultBuild.wf = true),
    ⟨rfl, rfl, fun _ => (by decide : cfgValid cfg20 = true), (nomatch ·)⟩, (nomatch ·),
    fun _ => ⟨rfl, rfl, hf, (nomatch ·), hw, he, fun _ => (nomatch ·), rfl, rfl, rfl, rfl⟩,
    ⟨fun _ => (nomatch ·), fun _ => (nomatch ·)⟩, Nat.le_refl _⟩

theorem inv_oneBit : oneBit.Inv := inv_windowAt (by decide) (by decide) (by decide)

/-! ### Witnesses: for every statement with hypotheses, a state and operands that meet them -/

/-- A frame start with the header 0x0243 of 45_checksum.md R107 and its checksum, undamaged: 85 bits. -/
def frame0243 : List Bool := symBits defaultBuild
  (frameSyms ⟨.sync1, .sync1, .sync1, .sync2, 0⟩ 0x0243 [] (crc32 defaultCrc (ser 0x0243 [])))

/-- The four symbols of a frame-start row, as bits. -/
def rowBits (r : SopRow) : List Bool := symBits defaultBuild (rowSyms r)

/-- The first sample index at which a window of these bits is idle. -/
def idleOf (bs : List Bool) : Sample := bmcEnd 1000 20 bs.length + 61

theorem inv_frame0243 : (windowOf frame0243).Inv :=
  inv_windowAt (by decide +kernel) (by decide +kernel) (by decide +kernel)

theorem closes_windowOf {bs : List Bool} (h : bmcEnd 1000 20 bs.length ≤ idleOf bs)
    (hi : 60 < idleOf bs - bmcEnd 1000 20 bs.length) : ClosesWindow (.tick (idleOf bs)) (windowOf bs) :=
  ⟨⟨rfl, rfl, rfl⟩, h, hi⟩

theorem witness_EventsDecodeFromTheirKind :
    (0x0_0000000000000000#67).extractLsb' 65 2 = 0b00#2 ∧ (0x3_FFFFFFFFFFFFFFFF#67).extractLsb' 65 2 = 0b01#2
      ∧ (0x4_0000000000000000#67).extractLsb' 65 2 = 0b10#2
      ∧ (0x7_FFFFFFFFFFFFFFFF#67).extractLsb' 65 2 = 0b11#2 := by decide

theorem witness_DecodeOfEncodeIsIdentity : (Instr.edge 0xFFFFFFFFFFFFFFFF true).wf = true := by decide

theorem witness_EncodeOfDecodeClearsIgnoredFields :
    decode (.event 0x5_FFFFFFFFFFFFFFFF#67) = .ok .eos ∧ decode (.access 0 6 1) = .ok (.cfgr 6) := by decide

theorem witness_StepRunsTheDecodedInstruction :
    State.pending { started with pending := [.word (.event 0x1_00000000000003E8#67), .reset] }
        = .word (.event 0x1_00000000000003E8#67) :: [.reset]
      ∧ (Instr.edge 1000 true).wf = true
      ∧ decode (.event 0x1_00000000000003E8#67) = .ok (.edge 1000 true)
      ∧ State.pending { oneBit with pending := [.reset] } = .reset :: [] ∧ started.pending = []
      ∧ decodeTableWord 72 0x1_00000000000003E8 = some (.edge 1000 true) := by decide

/-- The one-bit window with a TICK presented that closes it. -/
def oneBitThenTick : State := { oneBit with pending := [.word (.event 0x2_000000000000044D#67)] }

theorem step_oneBitThenTick : step oneBitThenTick = .next (after (.tick 1101) oneBit) := rfl

theorem witness_InvariantKeptByEveryStep :
    oneBitThenTick.Inv ∧ step oneBitThenTick = .next (after (.tick 1101) oneBit) :=
  ⟨inv_oneBit, step_oneBitThenTick⟩

theorem witness_RecordRangesStayOrdered :
    oneBitThenTick.Inv ∧ oneBitThenTick.RangesOrdered
      ∧ step oneBitThenTick = .next (after (.tick 1101) oneBit) :=
  ⟨inv_oneBit, fun _ h => absurd h List.not_mem_nil, step_oneBitThenTick⟩

theorem witness_OutputIsAppendOnly :
    exec (.tick 1101) oneBit = .next (after (.tick 1101) oneBit) ∧ oneBit.outBase ≤ oneBit.out.length :=
  ⟨rfl, by decide⟩

theorem witness_BuildParametersNeverChange : exec .rsvd started = .next (after .rsvd started) := rfl

theorem witness_OnlyResetClearsStatusBits :
    let s : State := { started with status := ⟨true, true, true, true, true⟩ }
    exec (.cfgr 0) s = .next (after (.cfgr 0) s) ∧ s.status.started = true ∧ s.status.fatal = true
      ∧ s.status.inputErr = true ∧ s.status.badev = true ∧ s.status.overflow = true :=
  ⟨rfl, rfl, rfl, rfl, rfl, rfl⟩

theorem witness_CfgwWritesTheNamedRegister :
    started.status.started = true ∧ State.reset.status.started = false
      ∧ 6 ≤ (6 : Reg).toNat ∧ 6 ≤ (0xFFFFFFFFFFFFFFFF : Reg).toNat := by decide

theorem witness_CfgrReturnsTheNamedRegister :
    7 ≤ (7 : Reg).toNat ∧ 7 ≤ (0xFFFFFFFFFFFFFFFF : Reg).toNat ∧ oneBit.Inv :=
  ⟨by decide, by decide, inv_oneBit⟩

theorem witness_ConfigurationIsLockedOnceStarted :
    started.status.started = true ∧ exec (.cfgw 2 99) started = .next started
      ∧ exec (.cfgr 5) started = .next (after (.cfgr 5) started) := ⟨rfl, rfl, rfl⟩

theorem witness_StartCheckDecides :
    State.reset.status.fatal = false ∧ State.reset.status.started = false
      ∧ cfgValid cfg20 = true ∧ cfgValid State.reset.cfg = false := by decide

theorem witness_FatalStopIsEnteredAndHolds :
    EntersFatal (.edge 100 true) 100 State.reset ∧ EntersFatal (.tick 100) 100 State.reset
      ∧ stopped.status.fatal = true ∧ exec (.cfgr 0) stopped = .next stopped ∧ stopped.Inv :=
  ⟨⟨rfl, rfl, rfl, by decide⟩, ⟨rfl, rfl, rfl, by decide⟩, rfl, rfl, inv_stopped⟩

theorem witness_ReservedEventSetsBadev :
    stopped.status.fatal = true ∧ State.reset.status.fatal = false := by decide

theorem witness_EosDropsTheWindow :
    (stopped.Inv ∧ stopped.status.fatal = true) ∧ (oneBit.Inv ∧ oneBit.status.fatal = false)
      ∧ (started.Inv ∧ started.win.isOpen = false) :=
  ⟨⟨inv_stopped, rfl⟩, ⟨inv_oneBit, rfl⟩, ⟨inv_started, rfl⟩⟩

theorem witness_SameLevelEdgeIsDropped :
    oneBit.status.started = true ∧ oneBit.win.level = some true := by decide

theorem witness_FirstEdgeOpensAWindow :
    started.status.fatal = false ∧ started.status.started = true ∧ started.win.level ≠ some true
      ∧ started.win.isOpen = false := by decide

theorem witness_InputOutOfOrderIsDropped :
    oneBit.Decoding ∧ oneBit.win.level ≠ some false ∧ 1040 ≤ oneBit.win.prevT ∧ 1039 < oneBit.win.prevT :=
  ⟨⟨rfl, rfl, rfl⟩, by decide, by decide, by decide⟩

/-- Clause by clause at the boundaries of the sample index: 1039, 1040, 1100 and 1101. -/
theorem witness_TickTakesItsPseudocode :
    stopped.status.fatal = true ∧ EntersFatal (.tick 0) 0 State.reset
      ∧ (cfgValid cfg20 = true ∧ State.reset.status.started = false)
      ∧ (started.status.started = true ∧ started.win.isOpen = false)
      ∧ (oneBit.Decoding ∧ (1039 : Sample).toNat < oneBit.win.prevT.toNat)
      ∧ oneBit.win.prevT.toNat + oneBit.cfg.thrIdle.toNat < (1101 : Sample).toNat
      ∧ oneBit.win.prevT.toNat ≤ (1040 : Sample).toNat
      ∧ (1100 : Sample).toNat ≤ oneBit.win.prevT.toNat + oneBit.cfg.thrIdle.toNat :=
  ⟨rfl, ⟨rfl, rfl, rfl, by decide⟩, ⟨by decide, rfl⟩, ⟨rfl, rfl⟩, ⟨⟨rfl, rfl, rfl⟩, by decide⟩, by decide,
    by decide, by decide⟩

theorem witness_GapsFallInOneClass : cfgValid cfg20 = true := by decide

/-- A timed edge of the one-bit window at the greatest gap that is not idle, and at the least. -/
theorem timed_oneBit : oneBit.TimedEdge 1041 false ∧ oneBit.TimedEdge 1100 false :=
  ⟨⟨⟨rfl, rfl, rfl⟩, by decide, by decide, by decide⟩, ⟨⟨rfl, rfl, rfl⟩, by decide, by decide, by decide⟩⟩

theorem timed_halfDone : halfDone.TimedEdge 1050 false ∧ halfDone.TimedEdge 1051 false :=
  ⟨⟨⟨rfl, rfl, rfl⟩, by decide, by decide, by decide⟩, ⟨⟨rfl, rfl, rfl⟩, by decide, by decide, by decide⟩⟩

/-- Gaps of 1 and 30. -/
theorem witness_FirstHalfOfAOne :
    oneBit.TimedEdge 1041 false ∧ oneBit.cfg.thrShortMin ≤ 1041 - oneBit.win.prevT
      ∧ 1041 - oneBit.win.prevT ≤ oneBit.cfg.thrSplit ∧ 1070 - oneBit.win.prevT ≤ oneBit.cfg.thrSplit
      ∧ oneBit.win.halfPending = false :=
  ⟨timed_oneBit.1, by decide, by decide, by decide, rfl⟩

theorem witness_SecondHalfOfAOne :
    halfDone.TimedEdge 1050 false ∧ halfDone.cfg.thrShortMin ≤ 1050 - halfDone.win.prevT
      ∧ 1050 - halfDone.win.prevT ≤ halfDone.cfg.thrSplit ∧ halfDone.win.halfPending = true
      ∧ ∀ c, halfDone.build.bitCapacity = some c → nbits halfDone < c :=
  ⟨timed_halfDone.1, by decide, by decide, rfl, fun _ => (nomatch ·)⟩

/-- Gaps of 60 with no half pending, and of 31 with one. -/
theorem witness_LongGapIsAZero :
    (oneBit.TimedEdge 1100 false ∧ oneBit.cfg.thrShortMin ≤ 1100 - oneBit.win.prevT
        ∧ oneBit.cfg.thrSplit < 1100 - oneBit.win.prevT ∧ 1100 - oneBit.win.prevT ≤ oneBit.cfg.thrLongMax
        ∧ oneBit.win.halfPending = false ∧ ∀ c, oneBit.build.bitCapacity = some c → nbits oneBit < c)
      ∧ (halfDone.TimedEdge 1051 false ∧ halfDone.cfg.thrShortMin ≤ 1051 - halfDone.win.prevT
        ∧ halfDone.cfg.thrSplit < 1051 - halfDone.win.prevT
        ∧ 1051 - halfDone.win.prevT ≤ halfDone.cfg.thrLongMax
        ∧ halfDone.win.halfPending = true ∧ ∀ c, halfDone.build.bitCapacity = some c → nbits halfDone < c) :=
  ⟨⟨timed_oneBit.2, by decide, by decide, by decide, rfl, fun _ => (nomatch ·)⟩,
    ⟨timed_halfDone.2, by decide, by decide, by decide, rfl, fun _ => (nomatch ·)⟩⟩

/-- The registers of 41_bit_recovery.md R76's example: gaps of 4 and 51 are bad. -/
def badBands : State := { oneBit with cfg := ⟨12000000, 5, 30, 50, 60, 3, false⟩ }

theorem witness_BadGapIsABestEffortZero :
    (badBands.TimedEdge 1044 false ∧ cfgValid badBands.cfg = true
        ∧ 1044 - badBands.win.prevT < badBands.cfg.thrShortMin)
      ∧ (badBands.TimedEdge 1091 false ∧ badBands.cfg.thrLongMax < 1091 - badBands.win.prevT)
      ∧ ∀ c, badBands.build.bitCapacity = some c → nbits badBands < c :=
  ⟨⟨⟨⟨rfl, rfl, rfl⟩, by decide, by decide, by decide⟩, by decide, by decide⟩,
    ⟨⟨⟨rfl, rfl, rfl⟩, by decide, by decide, by decide⟩, by decide⟩, fun _ => (nomatch ·)⟩

/-- A buffer of capacity 1 that is full. -/
def fullBuffer : State := { oneBit with build := { defaultBuild with bitCapacity := some 1 } }

/-- A bit is discarded at the gap of 60; none is due at the gap of 1. -/
theorem witness_FullBufferDiscardsTheBit :
    fullBuffer.TimedEdge 1100 false ∧ fullBuffer.TimedEdge 1041 false
      ∧ exec (.edge 1100 false) { fullBuffer with build := { fullBuffer.build with bitCapacity := none } }
          = .next (after (.edge 1100 false) oneBit)
      ∧ (after (.edge 1100 false) oneBit).win.bits ≠ fullBuffer.win.bits
      ∧ (after (.edge 1041 false) oneBit).win.bits = fullBuffer.win.bits
      ∧ fullBuffer.build.bitCapacity = some 1 ∧ 1 ≤ nbits fullBuffer :=
  ⟨⟨⟨rfl, rfl, rfl⟩, by decide, by decide, by decide⟩, ⟨⟨rfl, rfl, rfl⟩, by decide, by decide, by decide⟩, rfl,
    by decide, by decide, rfl, by decide⟩

theorem witness_PendingHalfIsDropped :
    halfDone.win.halfPending = true ∧ ClosesWindow (.tick 1081) halfDone
      ∧ ClosesWindow (.edge 1081 false) halfDone ∧ halfDone.Decoding :=
  ⟨rfl, ⟨⟨rfl, rfl, rfl⟩, by decide, by decide⟩, ⟨⟨rfl, rfl, rfl⟩, by decide, by decide, by decide⟩,
    ⟨rfl, rfl, rfl⟩⟩

theorem witness_BmcEncodingIsInverted :
    started.Inv ∧ started.status.fatal = false ∧ started.status.started = true ∧ started.win.isOpen = false
      ∧ (∀ c, started.build.bitCapacity = some c → [true, false, true].length ≤ c)
      ∧ started.cfg.thrShortMin ≤ 20 ∧ 20 ≤ started.cfg.thrSplit
      ∧ started.cfg.thrSplit.toNat < 2 * (20 : Sample).toNat
      ∧ 2 * (20 : Sample).toNat ≤ started.cfg.thrLongMax.toNat
      ∧ (1000 : Sample).toNat + 2 * [true, false, true].length * (20 : Sample).toNat < 2 ^ 64 :=
  ⟨inv_started, rfl, rfl, rfl, fun _ => (nomatch ·), by decide, by decide, by decide, by decide, by decide⟩

theorem witness_CodeRowsAnswerTheirSymbol : State.reset.build.codeTable = defaultCodeTable := rfl

theorem witness_FrameStartRowsChooseThemselves :
    State.reset.build.codeTable = defaultCodeTable ∧ State.reset.build.sopTable = defaultSopTable := ⟨rfl, rfl⟩

/-- A window whose scan accepts offset 0. -/
theorem witness_LowestAcceptedOffsetWins :
    let row : SopRow := ⟨.sync1, .sync1, .sync1, .sync2, 0⟩
    syncScan (windowOf (rowBits row)) = some ⟨0, row⟩
      ∧ (windowOf (rowBits row)).build.sopTable = defaultSopTable := by decide

/-- An exact row; a candidate 3 of 4 from row 4 and from no row below; one that no row reaches; thresholds. -/
theorem witness_ChooseTakesExactThenLeastRow :
    rowMatches defaultBuild 0x31B18 ⟨.sync1, .sync1, .sync3, .sync3, 1⟩ = 4
      ∧ rowMatches defaultBuild 0x31B18 ⟨.sync1, .sync1, .sync1, .sync2, 0⟩ ≠ 4
      ∧ (∀ r ∈ defaultSopTable, rowMatches defaultBuild 0b10001_00110_10001_11000 r ≠ 4)
      ∧ (defaultSopTable.map (rowMatches defaultBuild 0b10001_00110_10001_11000)).take 5 = [2, 2, 1, 1, 3]
      ∧ (∀ r ∈ defaultSopTable, rowMatches defaultBuild 0 r ≠ 4 ∧ rowMatches defaultBuild 0 r < (3#3).toNat)
      ∧ 3 ≤ (3#3).toNat ∧ (4#3).toNat ≤ 4 := by decide

theorem witness_CloseKeepsWhatOutlivesTheWindow :
    ClosesWindow (.tick 1101) oneBit ∧ ClosesWindow (.edge 1101 false) oneBit :=
  ⟨⟨⟨rfl, rfl, rfl⟩, by decide, by decide⟩, ⟨⟨rfl, rfl, rfl⟩, by decide, by decide, by decide⟩⟩

theorem witness_IdleEdgeIsTickThenEdge : ClosesWindow (.edge 1101 false) oneBit :=
  witness_CloseKeepsWhatOutlivesTheWindow.2

/-- Exactly 20 bits, all 0: the one candidate matches no row. -/
theorem witness_JunkWindowIsReported :
    let bs := List.replicate 20 false
    (windowOf bs).Inv ∧ ClosesWindow (.tick (idleOf bs)) (windowOf bs)
      ∧ (0 + 20 ≤ nbits (windowOf bs) ∧ ¬ 1 + 20 ≤ nbits (windowOf bs))
      ∧ ∀ r ∈ (windowOf bs).build.sopTable,
          rowMatches (windowOf bs).build (candidateAt (windowOf bs) 0) r
            < (windowOf bs).cfg.sopMinMatch.toNat :=
  ⟨inv_windowAt (by decide) (by decide) (by decide), closes_windowOf (by decide) (by decide), by decide,
    by decide⟩

/-- Exactly the 20 bits of the hard reset; and of the cable reset after one bit. -/
theorem witness_ResetWindowIsReported :
    (let bs := rowBits ⟨.rst1, .rst1, .rst1, .rst2, 6⟩;
      (windowOf bs).Inv ∧ ClosesWindow (.tick (idleOf bs)) (windowOf bs) ∧ 0 + 20 ≤ nbits (windowOf bs)
        ∧ (∀ j < 0, chooseAt (windowOf bs) j = none)
        ∧ chooseAt (windowOf bs) 0 = some ⟨.rst1, .rst1, .rst1, .rst2, 6⟩)
      ∧ (let bs := false :: rowBits ⟨.rst1, .sync1, .rst1, .sync3, 5⟩;
      (∀ j < 1, chooseAt (windowOf bs) j = none)
        ∧ chooseAt (windowOf bs) 1 = some ⟨.rst1, .sync1, .rst1, .sync3, 5⟩) :=
  ⟨⟨inv_windowAt (by decide) (by decide) (by decide), closes_windowOf (by decide) (by decide), by decide,
    by decide, by decide⟩, by decide, by decide⟩

theorem witness_EveryClosedWindowHasOneTerminalRecord :
    ClosesWindow (.tick 1101) oneBit ∧ exec .eos oneBit = .next (after .eos oneBit) :=
  ⟨witness_CloseKeepsWhatOutlivesTheWindow.1, rfl⟩

theorem witness_NoRecordBetweenCloses :
    oneBit.Inv ∧ exec (.tick 1100) oneBit = .next (after (.tick 1100) oneBit)
      ∧ ¬ ClosesWindow (.tick 1100) oneBit :=
  ⟨inv_oneBit, rfl, fun h => absurd h.2.2 (by decide)⟩

/-- The close of the undamaged frame leaves a FRAME in the stream. -/
theorem closes_frame0243 : ClosesWindow (.tick (idleOf frame0243)) (windowOf frame0243) :=
  closes_windowOf (by decide +kernel) (by decide +kernel)

theorem out_frame0243 :
    (after (.tick (idleOf frame0243)) (windowOf frame0243)).out.any
      (fun r => recordTag r == 0x09) = true := by decide +kernel

theorem witness_FrameFlagsTellItsWarnings :
    let s := windowOf frame0243
    ∃ t rs r f, s.Inv ∧ exec (.tick (idleOf frame0243)) s = .next t ∧ t.out = s.out ++ rs ∧ r ∈ rs
      ∧ r.body = .frame f := by
  obtain ⟨r, hr, ht⟩ := List.any_eq_true.1 out_frame0243
  refine ⟨after (.tick (idleOf frame0243)) (windowOf frame0243),
    (after (.tick (idleOf frame0243)) (windowOf frame0243)).out, r, ?_⟩
  cases hb : r.body with
  | frame f => exact ⟨f, inv_frame0243, exec_eq_after _ _, (List.nil_append _).symm, hr, rfl⟩
  | _ => simp [recordTag, hb, bodyTag] at ht

theorem witness_FrameIsFollowedByItsBitrate :
    (windowOf frame0243).Inv ∧ ClosesWindow (.tick (idleOf frame0243)) (windowOf frame0243)
      ∧ terminalTag (windowOf frame0243) = 0x09 :=
  ⟨inv_frame0243, closes_frame0243, by decide +kernel⟩

/-- The first bit and the last bit of the second byte. -/
theorem witness_RawBytesPackTheBits :
    0 / 8 < (rawBytes (windowOf (List.replicate 9 true)).win.bits).length
      ∧ 15 / 8 < (rawBytes (windowOf (List.replicate 9 true)).win.bits).length
      ∧ ¬ 16 / 8 < (rawBytes (windowOf (List.replicate 9 true)).win.bits).length := by decide

/-- Exactly 20 bits hold a header group at offset 0 and none at offset 1. -/
theorem witness_GroupsDecodeLeastNibbleFirst :
    let s := windowOf (List.replicate 20 true)
    s.par.idx + 5 * 4 ≤ nbits s ∧ nbits s < s.par.idx + 5 * 8
      ∧ nbits (setIdx 1 s) < (setIdx 1 s).par.idx + 5 * 4 := by decide

/-- Exactly 5 bits: EOP, another symbol, and one bit too few. -/
theorem witness_TerminatorIsChecked :
    let s := windowOf (codeBits 0x0D)
    (s.par.idx + 5 ≤ nbits s ∧ symAt s s.par.idx = .eop)
      ∧ symAt (windowOf (codeBits 0x00)) 0 ≠ .eop
      ∧ nbits (setIdx 1 s) < (setIdx 1 s).par.idx + 5 := by decide

theorem witness_ChecksumIsCompared :
    let good : State := setCrcRx 0x74836F15 (setHeader 0x0243 started)
    (good.par.crcRx = crc32 good.build.crcAlgo (ser good.par.hdr good.par.words)
        ∧ good.par.crcNondata = false)
      ∧ started.par.crcRx ≠ crc32 started.build.crcAlgo (ser started.par.hdr started.par.words)
      ∧ (setNondata good).par.crcNondata = true := by decide +kernel

/-- The row of the ordinary frame start. -/
def sopRow : SopRow := ⟨.sync1, .sync1, .sync1, .sync2, 0⟩

/-- Exactly the 20 bits of the frame start, and 19 bits more. -/
theorem witness_TruncatedHeaderIsStillReported :
    let bs := rowBits sopRow
    (windowOf bs).Inv ∧ ClosesWindow (.tick (idleOf bs)) (windowOf bs)
      ∧ (windowOf bs).build.sopTable = defaultSopTable
      ∧ syncScan (windowOf bs) = some ⟨0, sopRow⟩ ∧ sopClass sopRow.kind ≠ .reset
      ∧ nbits (windowOf bs) < 0 + 40
      ∧ syncScan (windowOf (bs ++ List.replicate 19 true)) = some ⟨0, sopRow⟩
      ∧ nbits (windowOf (bs ++ List.replicate 19 true)) < 0 + 40
      ∧ (windowOf bs).build.sentinel16 = 0x0BAD ∧ (windowOf bs).build.sentinel32 = 0x0BAD0BAD
      ∧ (windowOf bs).build.crcAlgo = defaultCrc :=
  ⟨inv_windowAt (by decide) (by decide) (by decide), closes_windowOf (by decide) (by decide), rfl,
    by decide, by decide, by decide, by decide, by decide, rfl, rfl, rfl⟩

/-- The symbols after the frame start of the one-word frame of 45_checksum.md R107 (b), header 0x1042. -/
def body1042 : List Bool := symBits defaultBuild (bodySyms 0x1042 [0x1000212C] 0x5D6EB173)

/-- The window of that frame with its frame start as sent and `cut` bits after it. -/
def cutBits (cut : Nat) : List Bool := rowBits sopRow ++ body1042.take cut

theorem accepted_sent (bs : List Bool) : AcceptedStart (windowOf bs) [] (rowBits sopRow) sopRow :=
  ⟨by decide, by decide, by decide, fun _ h => absurd h (Nat.not_lt_zero _), .inl rfl⟩

/-- Cut right after the header, one bit before the end of the trailer, right after the trailer, and one bit
before the end of the terminator. -/
theorem witness_CutFrameIsStillReported :
    ([20, 99, 100, 104].all fun cut => Memory.wfFrom 1000 (windowOf (cutBits cut)).win.bits) = true
      ∧ ((windowOf (cutBits 20)).Inv ∧ ClosesWindow (.tick (idleOf (cutBits 20))) (windowOf (cutBits 20)))
      ∧ ((windowOf (cutBits 104)).Inv ∧ ClosesWindow (.tick (idleOf (cutBits 104))) (windowOf (cutBits 104)))
      ∧ (windowOf (cutBits 20)).build.defaultTables
      ∧ (∀ cut, AcceptedStart (windowOf (cutBits cut)) [] (rowBits sopRow) sopRow)
      ∧ [(0x1000212C : Word32)].length = sentCount 0x1042
      ∧ ((windowOf (cutBits 20)).win.bits.map BitRecord.value = [] ++ rowBits sopRow ++ body1042.take 20
        ∧ (windowOf (cutBits 104)).win.bits.map BitRecord.value = [] ++ rowBits sopRow ++ body1042.take 104)
      ∧ (99 < 60 + 40 * 1 ∧ 60 + 40 * 1 ≤ 100 ∧ 104 < 65 + 40 * 1)
      ∧ 0x5D6EB173 = crc32 defaultCrc (ser 0x1042 [0x1000212C]) :=
  ⟨by decide +kernel,
    ⟨inv_windowAt (by decide +kernel) (by decide +kernel) (by decide +kernel),
      closes_windowOf (by decide +kernel) (by decide +kernel)⟩,
    ⟨inv_windowAt (by decide +kernel) (by decide +kernel) (by decide +kernel),
      closes_windowOf (by decide +kernel) (by decide +kernel)⟩, ⟨rfl, rfl, rfl⟩,
    fun _ => accepted_sent _, by decide, by decide +kernel, by decide, by decide +kernel⟩

/-- The frame of header 0x0243 after its frame start. -/
def body0243 : List Bool := symBits defaultBuild (bodySyms 0x0243 [] 0x74836F15)

/-- The frame start of 95_test_vectors.md SY3, an ERROR in its first place: accepted with 3 matches. -/
def fuzzyStart : List Bool := symBits defaultBuild [.error, .sync1, .sync1, .sync2]

/-- As sent, and with the fuzzy frame start. -/
theorem witness_UndamagedFrameIsRecovered :
    ([rowBits sopRow, fuzzyStart].all fun start =>
        decide ((windowOf (start ++ body0243)).win.bits.map BitRecord.value = [] ++ start ++ body0243 ++ []))
        = true
      ∧ (windowOf (rowBits sopRow ++ body0243)).Inv ∧ (windowOf (fuzzyStart ++ body0243)).Inv
      ∧ ClosesWindow (.tick (idleOf (fuzzyStart ++ body0243))) (windowOf (fuzzyStart ++ body0243))
      ∧ (windowOf (fuzzyStart ++ body0243)).build.defaultTables
      ∧ AcceptedStart (windowOf (rowBits sopRow ++ body0243)) [] (rowBits sopRow) sopRow
      ∧ AcceptedStart (windowOf (fuzzyStart ++ body0243)) [] fuzzyStart sopRow
      ∧ startMatches (windowOf (fuzzyStart ++ body0243)) 0 sopRow = 3
      ∧ ([] : List Word32).length = sentCount 0x0243 ∧ 0x74836F15 = crc32 defaultCrc (ser 0x0243 []) :=
  ⟨by decide +kernel, inv_windowAt (by decide +kernel) (by decide +kernel) (by decide +kernel),
    inv_windowAt (by decide +kernel) (by decide +kernel) (by decide +kernel),
    closes_windowOf (by decide +kernel) (by decide +kernel), ⟨rfl, rfl, rfl⟩, accepted_sent _,
    ⟨by decide, by decide, by decide, fun _ h => absurd h (Nat.not_lt_zero _), .inr (by decide +kernel)⟩,
    by decide +kernel, by decide, by decide +kernel⟩

/-- The window of that frame with bit `k` after its frame start set to `v`. -/
def flipAt (k : Nat) (v : Bool) : List Bool := rowBits sopRow ++ body0243.set k v

/-- The trailer's first bit flipped, and its last: each in its own window. -/
theorem witness_FlippedTrailerBitIsCaught :
    ((windowOf (flipAt 20 false)).Inv
        ∧ ClosesWindow (.tick (idleOf (flipAt 20 false))) (windowOf (flipAt 20 false)))
      ∧ ((windowOf (flipAt 59 true)).Inv
        ∧ ClosesWindow (.tick (idleOf (flipAt 59 true))) (windowOf (flipAt 59 true)))
      ∧ (windowOf (flipAt 59 true)).build.defaultTables
      ∧ AcceptedStart (windowOf (flipAt 20 false)) [] (rowBits sopRow) sopRow
      ∧ AcceptedStart (windowOf (flipAt 59 true)) [] (rowBits sopRow) sopRow
      ∧ ([] : List Word32).length = sentCount 0x0243 ∧ 0x74836F15 = crc32 defaultCrc (ser 0x0243 [])
      ∧ (20 + 40 * 0 ≤ 20 ∧ 59 < 60 + 40 * 0)
      ∧ (body0243[20]? = some true ∧ body0243[59]? = some false)
      ∧ (windowOf (flipAt 20 false)).win.bits.map BitRecord.value
          = [] ++ rowBits sopRow ++ body0243.set 20 (!true) ++ []
      ∧ (windowOf (flipAt 59 true)).win.bits.map BitRecord.value
          = [] ++ rowBits sopRow ++ body0243.set 59 (!false) ++ [] :=
  ⟨⟨inv_windowAt (by decide +kernel) (by decide +kernel) (by decide +kernel),
      closes_windowOf (by decide +kernel) (by decide +kernel)⟩,
    ⟨inv_windowAt (by decide +kernel) (by decide +kernel) (by decide +kernel),
      closes_windowOf (by decide +kernel) (by decide +kernel)⟩, ⟨rfl, rfl, rfl⟩, accepted_sent _,
    accepted_sent _, by decide, by decide +kernel, by decide, by decide +kernel, by decide +kernel,
    by decide +kernel⟩

theorem witness_SentFramesAreReceived :
    let row : SopRow := ⟨.sync1, .sync1, .sync1, .sync2, 0⟩
    let bs := alternating false 8 ++ frame0243
    started.Inv ∧ started.status.fatal = false ∧ started.status.started = true ∧ started.win.isOpen = false
      ∧ started.build.defaultTables ∧ started.build.bitCapacity = none ∧ started.cfg.sopMinMatch = 3
      ∧ row ∈ defaultSopTable ∧ sopClass row.kind ≠ .reset
      ∧ ([] : List Word32).length = sentCount 0x0243
      ∧ bs = alternating false 8
          ++ symBits started.build (frameSyms row 0x0243 [] (crc32 started.build.crcAlgo (ser 0x0243 [])))
      ∧ started.cfg.thrShortMin ≤ 20 ∧ 20 ≤ started.cfg.thrSplit
      ∧ started.cfg.thrSplit.toNat < 2 * (20 : Sample).toNat
      ∧ 2 * (20 : Sample).toNat ≤ started.cfg.thrLongMax.toNat
      ∧ started.cfg.thrIdle < 61
      ∧ (1000 : Sample).toNat + 2 * bs.length * (20 : Sample).toNat + (61 : Sample).toNat < 2 ^ 64 :=
  ⟨inv_started, rfl, rfl, rfl, ⟨rfl, rfl, rfl⟩, rfl, rfl, by decide, by decide, by decide, rfl, by decide,
    by decide, by decide, by decide, by decide, by decide +kernel⟩

/-- Two states that differ in a register no rule reads agree. -/
theorem witness_UnspecifiedRegistersAreNeverRead :
    let t : State := { started with win := { started.win with firstT := 7, prevT := 9 }, out := [⟨0, 0, .eop⟩] }
    started.AgreeOnRead t ∧ started ≠ t ∧ exec .rsvd started = .next (after .rsvd started) :=
  ⟨⟨rfl, rfl, rfl, rfl, rfl, rfl, rfl, rfl, rfl, (nomatch ·), (nomatch ·)⟩, by decide, rfl⟩

theorem witness_SameEventsSameOutput : oneBit.build = stopped.build ∧ oneBit ≠ stopped := by decide

/-- The default options, whose tolerance of 3/4 gives exactly 3. -/
theorem witness_HostConversionRoundsAsStated :
    let o : HostOptions := ⟨⟨5, 3⟩, ⟨3, 4⟩, ⟨3, 1⟩, 12000000, false⟩
    0 < o.unitIntervalUs.den ∧ 0 < o.sopMatchTolerance.den ∧ 0 < o.idleTimeoutUi.den
      ∧ optThrSplit o < 2 ^ 64 ∧ optThrIdle o < 2 ^ 64 ∧ 1 ≤ 3
      ∧ 4 * o.sopMatchTolerance.num ≤ 3 * o.sopMatchTolerance.den := by decide

end Sys2Proof.Machine.Tests
end

section
/-! PROOFS. The host's default conversion of the real-valued options (00_scope.md R7). -/

namespace Sys2Proof.Machine

/-! ### The registers `hostConfig` writes -/

@[simp] theorem hostConfig_sampleRate (o : HostOptions) : (hostConfig o).sampleRate = o.sampleRate := rfl
@[simp] theorem hostConfig_rawdumpEn (o : HostOptions) : (hostConfig o).rawdumpEn = o.rawdumpEn := rfl
@[simp] theorem hostConfig_thrShortMin (o : HostOptions) : (hostConfig o).thrShortMin = 1 := rfl
@[simp] theorem hostConfig_thrLongMax (o : HostOptions) : (hostConfig o).thrLongMax = (hostConfig o).thrIdle := rfl

theorem hostConfig_thrSplit_toNat {o : HostOptions} (h : optThrSplit o < 2 ^ 64) :
    (hostConfig o).thrSplit.toNat = optThrSplit o :=
  (BitVec.toNat_ofNat ..).trans (Nat.mod_eq_of_lt h)

theorem hostConfig_thrIdle_toNat {o : HostOptions} (h : optThrIdle o < 2 ^ 64) :
    (hostConfig o).thrIdle.toNat = optThrIdle o :=
  (BitVec.toNat_ofNat ..).trans (Nat.mod_eq_of_lt h)

/-- The clamp to 4 keeps the count inside its 3-bit register. -/
theorem hostConfig_sopMinMatch_toNat (o : HostOptions) :
    (hostConfig o).sopMinMatch.toNat = optSopMinMatch o :=
  (BitVec.toNat_ofNat ..).trans (Nat.mod_eq_of_lt ((min_le_left ..).trans_lt (by decide)))

/-! ### The rounding -/

theorem uiSamples_den_pos {o : HostOptions} (hui : 0 < o.unitIntervalUs.den) : 0 < (uiSamples o).den :=
  Nat.mul_pos hui (by decide)

/-- A quotient of naturals is the floor: the greatest multiple of the divisor that fits. -/
theorem floor_bounds {d : Nat} (n : Nat) (hd : 0 < d) : n / d * d ≤ n ∧ n < (n / d + 1) * d :=
  ⟨Nat.div_mul_le_self n d, Nat.lt_mul_of_div_lt (Nat.lt_succ_self _) hd⟩

theorem optThrSplit_floor {o : HostOptions} (hui : 0 < o.unitIntervalUs.den) :
    optThrSplit o * (2 * (uiSamples o).den) ≤ 3 * (uiSamples o).num
      ∧ 3 * (uiSamples o).num < (optThrSplit o + 1) * (2 * (uiSamples o).den) :=
  floor_bounds _ (Nat.mul_pos (by decide) (uiSamples_den_pos hui))

theorem optThrIdle_floor {o : HostOptions} (hui : 0 < o.unitIntervalUs.den) (hidle : 0 < o.idleTimeoutUi.den) :
    optThrIdle o * (o.idleTimeoutUi.den * (uiSamples o).den) ≤ o.idleTimeoutUi.num * (uiSamples o).num
      ∧ o.idleTimeoutUi.num * (uiSamples o).num
        < (optThrIdle o + 1) * (o.idleTimeoutUi.den * (uiSamples o).den) :=
  floor_bounds _ (Nat.mul_pos hidle (uiSamples_den_pos hui))

theorem one_le_optSopMinMatch (o : HostOptions) : 1 ≤ optSopMinMatch o :=
  le_min (by decide) (le_max_left ..)

/-- The ceiling and the clamp together: from 1 up, the bounds of the count are 4 and the bounds of four times
the tolerance. -/
theorem optSopMinMatch_le_iff {o : HostOptions} (htol : 0 < o.sopMatchTolerance.den) {k : Nat} (hk : 1 ≤ k) :
    optSopMinMatch o ≤ k ↔ 4 ≤ k ∨ 4 * o.sopMatchTolerance.num ≤ k * o.sopMatchTolerance.den := by
  have hceil : (4 * o.sopMatchTolerance.num + o.sopMatchTolerance.den - 1) / o.sopMatchTolerance.den ≤ k
      ↔ 4 * o.sopMatchTolerance.num ≤ k * o.sopMatchTolerance.den := by
    rw [← Nat.ceilDiv_eq_add_pred_div, ceilDiv_le_iff_le_mul htol, Nat.mul_comm k]
  rw [optSopMinMatch, min_le_iff, max_le_iff, hceil, and_iff_right hk]

/-- Settles O59: the registers hold the rounded options, and each rounding is the quotient's own bound. -/
theorem hostConversionRoundsAsStated : Obligations.HostConversionRoundsAsStated := by
  intro o hui htol hidle hsplitFits hidleFits
  obtain ⟨hsplitLe, hsplitLt⟩ := optThrSplit_floor hui
  obtain ⟨hidleLe, hidleLt⟩ := optThrIdle_floor hui hidle
  rw [← hostConfig_thrSplit_toNat hsplitFits] at hsplitLe hsplitLt
  rw [← hostConfig_thrIdle_toNat hidleFits] at hidleLe hidleLt
  refine ⟨hostConfig_sampleRate o, hostConfig_rawdumpEn o, hostConfig_thrShortMin o, hostConfig_thrLongMax o,
    hsplitLe, hsplitLt, hidleLe, hidleLt, ?_⟩
  rw [hostConfig_sopMinMatch_toNat]
  exact ⟨one_le_optSopMinMatch o, fun _ hk => optSopMinMatch_le_iff htol hk⟩

end Sys2Proof.Machine
end

section
/-! PROOFS. The architectural state: its reset values (10_state.md R34), the validity of the configuration
(R19), and what every instruction keeps of the output stream (R31) and of the locked configuration (R20). -/

namespace Sys2Proof.Machine

/-! ### Reset and the validity of the configuration -/

/-- With no window open and every stored bit clear, STATUS reads 0. -/
theorem statusWord_eq_zero {s : State} (hphase : s.phase = .demodulating) (hopen : s.win.isOpen = false)
    (hstatus : s.status = StatusBits.reset) : statusWord s = 0 := by
  rw [statusWord, hphase, hopen, hstatus]
  decide

/-- Reset moves the base of the stream to its end. -/
theorem outSinceReset_doReset (s : State) : outSinceReset (doReset s) = [] := List.drop_length

/-- Settles O7: reset writes each register and field its stated value, and STATUS is the word of those. -/
theorem resetLeavesTheStatedValues : Obligations.ResetLeavesTheStatedValues :=
  ⟨rfl, rfl, rfl, rfl, rfl, rfl, rfl, statusWord_eq_zero rfl rfl rfl, rfl, rfl, rfl, rfl, rfl, rfl,
    outSinceReset_doReset State.reset⟩

/-- Settles O14: the seven comparisons of `cfgValid`, unsigned on registers, are those of the register values. -/
theorem configurationIsValidExactlyWhen : Obligations.ConfigurationIsValidExactlyWhen := by
  intro c
  simp only [cfgValid, Bool.and_eq_true, decide_eq_true_eq, and_assoc, BitVec.le_def, BitVec.lt_def]
  rfl

/-! ### What every instruction keeps

A relation that is reflexive and transitive, so that it passes from each operation to the instructions built
from it. -/

/-- The output of `t` extends that of `s` and has the same base, so no reset lies between them; and if `s` is
started, `t` is started with the same configuration. -/
structure InstrFrame (s t : State) : Prop where
  out : s.out <+: t.out
  outBase : t.outBase = s.outBase
  locked : s.status.started = true → t.cfg = s.cfg ∧ t.status.started = true

theorem InstrFrame.refl (s : State) : InstrFrame s s := ⟨List.prefix_rfl, rfl, fun hs => ⟨rfl, hs⟩⟩

theorem InstrFrame.trans {s t u : State} (h : InstrFrame s t) (k : InstrFrame t u) : InstrFrame s u where
  out := h.out.trans k.out
  outBase := k.outBase.trans h.outBase
  locked hs := by
    obtain ⟨hcfg, hstarted⟩ := h.locked hs
    obtain ⟨kcfg, kstarted⟩ := k.locked hstarted
    exact ⟨kcfg.trans hcfg, kstarted⟩

/-- An operation that emits nothing and writes neither the configuration nor STARTED. -/
theorem InstrFrame.ofSilent {s t : State} (hout : t.out = s.out) (hbase : t.outBase = s.outBase)
    (hcfg : t.cfg = s.cfg) (hstarted : s.status.started = true → t.status.started = true) : InstrFrame s t :=
  ⟨hout ▸ List.prefix_rfl, hbase, fun hs => ⟨hcfg, hstarted hs⟩⟩

theorem openWindow_instrFrame (t : Sample) (l : Bool) (s : State) : InstrFrame s (openWindow t l s) :=
  .ofSilent rfl rfl rfl id

theorem advanceEdge_instrFrame (t : Sample) (l : Bool) (s : State) : InstrFrame s (advanceEdge t l s) :=
  .ofSilent rfl rfl rfl id

theorem setInputErr_instrFrame (s : State) : InstrFrame s (setInputErr s) := .ofSilent rfl rfl rfl id

theorem setBadev_instrFrame (s : State) : InstrFrame s (setBadev s) := .ofSilent rfl rfl rfl id

theorem setStarted_instrFrame (s : State) : InstrFrame s (setStarted s) := .ofSilent rfl rfl rfl fun _ => rfl

theorem clearWindow_instrFrame (s : State) : InstrFrame s (clearWindow s) := .ofSilent rfl rfl rfl id

theorem forgetLevel_instrFrame (s : State) : InstrFrame s (forgetLevel s) := .ofSilent rfl rfl rfl id

theorem enterFatal_instrFrame (t : Sample) (s : State) : InstrFrame s (enterFatal t s) :=
  ⟨List.prefix_append _ _, rfl, fun hs => ⟨rfl, hs⟩⟩

theorem closeWindow_instrFrame (s : State) : InstrFrame s (closeWindow s) :=
  ⟨closeWindow_out_prefix s, closeWindow_outBase s, fun hs => ⟨closeWindow_cfg s, closeWindow_status s ▸ hs⟩⟩

/-- Bit recovery writes at most one bit of STATUS, and that is OVERFLOW. -/
theorem RecoveryFrame.started {s u : State} (h : RecoveryFrame s u) : u.status.started = s.status.started := by
  rcases h.overflowOnly with ⟨-, hstatus⟩ | ⟨-, -, -, hstatus⟩ <;> rw [hstatus]

theorem gapOp_instrFrame (t : Sample) (s : State) : InstrFrame s (gapOp t s) :=
  have h := gapOp_recovery t s
  .ofSilent h.out h.outBase h.cfg fun hs => h.started.trans hs

theorem edgeStarted_instrFrame (t : Sample) (l : Bool) (s : State) : InstrFrame s (edgeStarted t l s) := by
  rcases edgeStarted_cases t l s with ⟨-, h⟩ | ⟨-, -, h⟩ | ⟨-, -, -, h⟩ | ⟨-, -, -, -, h⟩
    | ⟨-, -, -, -, h⟩ <;> rw [h]
  · exact .refl s
  · exact openWindow_instrFrame t l s
  · exact setInputErr_instrFrame s
  · exact (closeWindow_instrFrame s).trans (openWindow_instrFrame t l _)
  · exact (gapOp_instrFrame t s).trans (advanceEdge_instrFrame t l _)

theorem tickStarted_instrFrame (t : Sample) (s : State) : InstrFrame s (tickStarted t s) := by
  rcases tickStarted_cases t s with ⟨-, h⟩ | ⟨-, -, h⟩ | ⟨-, -, h⟩ | ⟨-, -, -, h⟩ <;> rw [h]
  · exact .refl s
  · exact setInputErr_instrFrame s
  · exact (closeWindow_instrFrame s).trans (forgetLevel_instrFrame _)
  · exact .refl s

/-- The fatal stop drops an event or lets it through. -/
theorem unlessFatal_instrFrame {k : State → State} {s : State} (hk : InstrFrame s (k s)) :
    InstrFrame s (unlessFatal k s) := by
  unfold unlessFatal
  split
  · exact .refl s
  · exact hk

theorem guarded_instrFrame {k : State → State} (hk : ∀ s, InstrFrame s (k s)) (t : Sample) (s : State) :
    InstrFrame s (unlessFatal (withStartCheck t k) s) := by
  rcases guarded_cases t k s with ⟨-, h⟩ | ⟨-, -, -, h⟩ | ⟨-, -, -, h⟩ | ⟨-, -, h⟩ <;> rw [h]
  · exact .refl s
  · exact enterFatal_instrFrame t s
  · exact (setStarted_instrFrame s).trans (hk _)
  · exact hk s

/-- CFGW's lock: once STARTED is 1 the write changes nothing (10_state.md R20). -/
theorem cfgw_instrFrame (a v : Reg) (s : State) :
    InstrFrame s (if s.status.started then s else { s with cfg := writeCfg (cfgRegAt a) v s.cfg }) := by
  split
  · exact .refl s
  · next hn => exact ⟨List.prefix_rfl, rfl, fun hs => absurd hs hn⟩

theorem exec_instrFrame {i : Instr} {s t : State} (h : exec i s = .next t) : InstrFrame s t := by
  rcases exec_next_cases h with ⟨T, l, -, rfl⟩ | ⟨T, -, rfl⟩ | ⟨-, rfl⟩ | ⟨-, rfl⟩ | ⟨a, v, -, rfl⟩ | ⟨a, -, rfl⟩
    | ⟨-, -, r, c, rfl⟩
  · exact guarded_instrFrame (edgeStarted_instrFrame T l) T s
  · exact guarded_instrFrame (tickStarted_instrFrame T) T s
  · exact unlessFatal_instrFrame ((clearWindow_instrFrame s).trans (forgetLevel_instrFrame _))
  · exact unlessFatal_instrFrame (setBadev_instrFrame s)
  · exact cfgw_instrFrame a v s
  · exact .ofSilent rfl rfl rfl id
  · exact .ofSilent rfl rfl rfl id

/-- Settles O11: the records grow by a suffix, and so do those past the base, which no instruction moves. -/
theorem outputIsAppendOnly : Obligations.OutputIsAppendOnly := by
  refine ⟨fun _ _ _ h => (exec_instrFrame h).out, fun s => ⟨rfl, outSinceReset_doReset s⟩, fun _ s t _ h => ?_⟩
  obtain ⟨hout, hbase, -⟩ := exec_instrFrame h
  unfold outSinceReset
  exact hbase ▸ hout.drop s.outBase

/-! ### Reading the held configuration -/

/-- CFGR returns the register at the address (40_input_events.md R61). -/
theorem cfgr_rdata {a : Reg} {s t : State} (h : exec (.cfgr a) s = .next t) :
    t.rdata = readCfg (cfgRegAt a) s := by
  cases h
  rfl

/-- SOP_MIN_MATCH is bits [2:0] of CTRL: RAWDUMP_EN lies above them. -/
theorem ctrlWord_sopMinMatch (c : CfgRegs) : (ctrlWord c).extractLsb' 0 3 = c.sopMinMatch := by
  ext i hi
  have hwide : i < 64 := by omega
  have hbelow : (bitAt c.rawdumpEn 3)[i] = false := by simp [bitAt, hi]
  simp [ctrlWord, hbelow, hi, hwide]

/-- RAWDUMP_EN is bit 3 of CTRL: SOP_MIN_MATCH, of three bits, does not reach it. -/
theorem ctrlWord_rawdumpEn (c : CfgRegs) : (ctrlWord c).getLsbD 3 = c.rawdumpEn := by
  simp [ctrlWord, bitAt]

/-- Settles O17: the lock is `InstrFrame.locked` of every instruction, and CFGR answers the field of its
address. -/
theorem configurationIsLockedOnceStarted : Obligations.ConfigurationIsLockedOnceStarted := by
  intro s t hs
  refine ⟨fun _ h => (exec_instrFrame h).locked hs, cfgr_rdata, cfgr_rdata, cfgr_rdata, cfgr_rdata, cfgr_rdata,
    fun h => ?_⟩
  have hctrl : t.rdata = ctrlWord s.cfg := cfgr_rdata h
  rw [hctrl]
  exact ⟨ctrlWord_sopMinMatch s.cfg, ctrlWord_rawdumpEn s.cfg⟩

end Sys2Proof.Machine
end

section
/-! PROOFS. The tables and the other build-time parameters are ROM: nothing writes them (20_memory.md R44). -/

namespace Sys2Proof.Machine

/-! ### The operations of an event keep the build -/

@[simp] theorem gapOp_build (t : Sample) (s : State) : (gapOp t s).build = s.build := (gapOp_recovery t s).build

@[simp] theorem edgeStarted_build (t : Sample) (l : Bool) (s : State) :
    (edgeStarted t l s).build = s.build := by
  rcases edgeStarted_cases t l s with ⟨-, h⟩ | ⟨-, -, h⟩ | ⟨-, -, -, h⟩ | ⟨-, -, -, -, h⟩
    | ⟨-, -, -, -, h⟩ <;> simp [h]

@[simp] theorem tickStarted_build (t : Sample) (s : State) : (tickStarted t s).build = s.build := by
  rcases tickStarted_cases t s with ⟨-, h⟩ | ⟨-, -, h⟩ | ⟨-, -, h⟩ | ⟨-, -, -, h⟩ <;> simp [h]

/-! ### The guards around an event keep what the event keeps -/

theorem unlessFatal_build {k : State → State} (hk : ∀ s, (k s).build = s.build) (s : State) :
    (unlessFatal k s).build = s.build := by
  unfold unlessFatal
  split
  · rfl
  · exact hk s

theorem withStartCheck_build {k : State → State} (hk : ∀ s, (k s).build = s.build) (t : Sample) (s : State) :
    (withStartCheck t k s).build = s.build := by
  unfold withStartCheck
  split
  · exact hk s
  · split
    · exact (hk _).trans (setStarted_build s)
    · exact enterFatal_build t s

/-! ### Every instruction keeps the build -/

/-- An event works behind its guards; CFGW writes a configuration register, and every other access a result
field. -/
theorem exec_build {i : Instr} {s t : State} (h : exec i s = .next t) : t.build = s.build := by
  rcases exec_next_cases h with ⟨T, l, -, rfl⟩ | ⟨T, -, rfl⟩ | ⟨-, rfl⟩ | ⟨-, rfl⟩ | ⟨a, v, -, rfl⟩ | ⟨a, -, rfl⟩
    | ⟨-, -, r, c, rfl⟩
  · exact unlessFatal_build (withStartCheck_build (edgeStarted_build T l) T) s
  · exact unlessFatal_build (withStartCheck_build (tickStarted_build T) T) s
  · exact unlessFatal_build (fun s => (forgetLevel_build _).trans (clearWindow_build s)) s
  · exact unlessFatal_build setBadev_build s
  · split <;> rfl
  · rfl
  · rfl

/-- Settles O12: no instruction writes the build, and reset carries it over. -/
theorem buildParametersNeverChange : Obligations.BuildParametersNeverChange :=
  ⟨fun _ _ _ h => exec_build h, doReset_build⟩

end Sys2Proof.Machine
end

section
/-! PROOFS. The event word's kind and words written out from the spec (30_encoding.md R46 to R48). -/

namespace Sys2Proof.Machine

/-! ### An event word decodes from its kind -/

theorem decodeEvent_edge {w : BitVec 67} (h : eventKind w = 0b00#2) :
    decodeEvent w = .edge (eventTime w) (eventLevel w) := by simp [decodeEvent, h]

theorem decodeEvent_tick {w : BitVec 67} (h : eventKind w = 0b01#2) :
    decodeEvent w = .tick (eventTime w) := by simp [decodeEvent, h]

theorem decodeEvent_eos {w : BitVec 67} (h : eventKind w = 0b10#2) : decodeEvent w = .eos := by
  simp [decodeEvent, h]

theorem decodeEvent_rsvd {w : BitVec 67} (h : eventKind w = 0b11#2) : decodeEvent w = .rsvd := by
  simp [decodeEvent, h]

/-- Settles O1: one arm of `decodeEvent` for each kind, which reads no field its event ignores. -/
theorem eventsDecodeFromTheirKind : Obligations.EventsDecodeFromTheirKind := fun _ =>
  ⟨fun h => congrArg Except.ok (decodeEvent_edge h), fun h => congrArg Except.ok (decodeEvent_tick h),
    fun h => congrArg Except.ok (decodeEvent_eos h), fun h => congrArg Except.ok (decodeEvent_rsvd h)⟩

/-- Settles O2: the event words by their kind, the accesses by their `op`, the table words by their rows. -/
theorem wordsWrittenOutDecode : Obligations.WordsWrittenOutDecode := by
  have edge : eventKind 0b00_1_0000000000000000000000000000000000000000000000000000001111101000#67 = 0b00#2 := by
    decide
  have tick : eventKind 0b01_0_0000000000000000000000000000000000000000000000000001001010101101#67 = 0b01#2 := by
    decide
  refine ⟨congrArg Except.ok (decodeEvent_edge edge), congrArg Except.ok (decodeEvent_tick tick),
    congrArg Except.ok (decodeEvent_eos ?_), congrArg Except.ok (decodeEvent_rsvd ?_), rfl, rfl, rfl, rfl, rfl,
    rfl, rfl⟩
  all_goals decide

end Sys2Proof.Machine
end

section
/-! PROOFS. Every record has `start <= end` (30_encoding.md R55): each range is read from a window whose edges,
bits and errors lie in order. -/

namespace Sys2Proof.Machine

/-! ### The ranges of an ordered window -/

/-- What the invariant says of an open window's sample indices, so far as a record's range is made of them. -/
structure WindowState.Ordered (w : WindowState) : Prop where
  edges : w.firstT ≤ w.prevT
  bits : Memory.wfFrom w.firstT w.bits = true
  bitsEnd : Memory.endFrom w.firstT w.bits ≤ w.prevT
  errors : ∀ e ∈ w.demodErrs, e.1 ≤ e.2

theorem State.Inv.ordered {s : State} (hi : s.Inv) (ho : s.win.isOpen = true) : s.win.Ordered := by
  obtain ⟨-, -, -, hopen, -, -⟩ := hi
  obtain ⟨-, -, hfirst, hhalf, hwf, hend, herrs, -⟩ := hopen ho
  have hlimit : s.win.bitLimit ≤ s.win.prevT := by
    unfold WindowState.bitLimit
    split
    · next hp => exact BitVec.le_of_lt (hhalf hp)
    · exact BitVec.le_refl _
  refine ⟨BitVec.le_trans hfirst hlimit, hwf, BitVec.le_trans hend hlimit, fun e he => ?_⟩
  obtain ⟨-, hlt, -⟩ := herrs e he
  exact BitVec.le_of_lt hlt

theorem bitStart_getElem {s : State} {k : Nat} (hk : k < s.win.bits.length) :
    bitStart s k = s.win.bits[k].start := by
  simp [bitStart, hk]

theorem bitEnd_getElem {s : State} {k : Nat} (hk : k < s.win.bits.length) :
    bitEnd s k = s.win.bits[k].stop := by
  simp [bitEnd, hk]

/-- Past the buffer's end both lookups answer the last edge. -/
theorem bitStart_of_le {s : State} {k : Nat} (hk : s.win.bits.length ≤ k) : bitStart s k = s.win.prevT := by
  simp [bitStart, hk]

theorem bitEnd_of_le {s : State} {k : Nat} (hk : s.win.bits.length ≤ k) : bitEnd s k = s.win.prevT := by
  simp [bitEnd, hk]

/-- No lookup passes the last edge, and none before it passes the lookup of a later bit's end. -/
theorem bitStart_le_bitEnd {s : State} (hw : s.win.Ordered) {i j : Nat} (hij : i ≤ j) :
    bitStart s i ≤ bitEnd s j := by
  by_cases hi : i < s.win.bits.length
  · rw [bitStart_getElem hi]
    by_cases hj : j < s.win.bits.length
    · rw [bitEnd_getElem hj]
      exact BitVec.le_of_lt (Memory.start_lt_stop _ _ hw.bits i j hij hj)
    · rw [bitEnd_of_le (by omega)]
      obtain ⟨-, hlt, hend⟩ := Memory.mem_bounds _ _ hw.bits _ (List.getElem_mem hi)
      exact BitVec.le_trans (BitVec.le_of_lt hlt) (BitVec.le_trans hend hw.bitsEnd)
  · rw [bitStart_of_le (by omega), bitEnd_of_le (by omega)]
    exact BitVec.le_refl _

theorem range_ordered {s : State} (hw : s.win.Ordered) (a b : Nat) : (range s a b).1 ≤ (range s a b).2 := by
  unfold range
  split
  · exact bitStart_le_bitEnd hw (by omega)
  · split <;> exact BitVec.le_refl _

theorem frameRange_ordered {s : State} (hw : s.win.Ordered) (h : s.par.sopOff < s.par.idx) :
    (frameRange s).1 ≤ (frameRange s).2 :=
  bitStart_le_bitEnd hw (by omega)

/-! ### The work on a closed window emits ordered records only

A relation that passes from each operation to the whole close, as `WorkFrame` does. -/

/-- From `s` to `t` the window stays, records of ordered range are emitted, and bits stay consumed past the
frame start. -/
structure RangeFrame (s t : State) : Prop where
  win : t.win = s.win
  consumed : s.par.sopOff < s.par.idx → t.par.sopOff < t.par.idx
  ranges : s.win.Ordered → s.RangesOrdered → t.RangesOrdered

theorem RangeFrame.refl (s : State) : RangeFrame s s := ⟨rfl, id, fun _ => id⟩

theorem RangeFrame.trans {s t u : State} (h : RangeFrame s t) (k : RangeFrame t u) : RangeFrame s u :=
  ⟨k.win.trans h.win, k.consumed ∘ h.consumed, fun hw hr => k.ranges (h.win ▸ hw) (h.ranges hw hr)⟩

/-- An operation that writes neither the window nor the output nor the two offsets. -/
theorem RangeFrame.ofSilent {s t : State} (hwin : t.win = s.win) (hout : t.out = s.out)
    (hoff : t.par.sopOff = s.par.sopOff) (hidx : t.par.idx = s.par.idx) : RangeFrame s t :=
  ⟨hwin, fun h => by rwa [hoff, hidx], fun _ hr => by unfold State.RangesOrdered; rwa [hout]⟩

theorem setIdx_rangeFrame {k : Nat} {s : State} (hk : s.par.sopOff < s.par.idx → s.par.sopOff < k) :
    RangeFrame s (setIdx k s) := ⟨rfl, hk, fun _ => id⟩

theorem emit_rangeFrame {r : Record} {s : State} (h : s.win.Ordered → r.start ≤ r.stop) :
    RangeFrame s (emit r s) := by
  refine ⟨rfl, id, fun hw hr x hx => ?_⟩
  rcases List.mem_append.1 hx with hx | hx
  · exact hr x hx
  · exact List.mem_singleton.1 hx ▸ h hw

theorem raise_rangeFrame {d : Diagnostic} {g : BitVec 4} {p : BitVec 3} {e a : Word32} {rng : Sample × Sample}
    {s : State} (h : s.win.Ordered → rng.1 ≤ rng.2) : RangeFrame s (raise d g p e a rng s) :=
  emit_rangeFrame h

theorem setPhase_rangeFrame (p : Phase) (s : State) : RangeFrame s (setPhase p s) := .ofSilent rfl rfl rfl rfl

/-! ### The parser -/

theorem emitSymbol_rangeFrame (g : BitVec 4) (pos k : Nat) (s : State) :
    RangeFrame s (emitSymbol g pos k s) := emit_rangeFrame fun hw => range_ordered hw _ _

theorem noteBadSymbol_rangeFrame (g : BitVec 4) (pos k : Nat) (s : State) :
    RangeFrame s (noteBadSymbol g pos k s) := by
  unfold noteBadSymbol
  split
  · have hflag : RangeFrame s (setBadsym s) := .ofSilent rfl rfl rfl rfl
    exact hflag.trans (raise_rangeFrame fun hw => range_ordered hw _ _)
  · exact .refl s

theorem noteNondata_rangeFrame (g : BitVec 4) (k : Nat) (s : State) : RangeFrame s (noteNondata g k s) := by
  unfold noteNondata
  split
  · exact .ofSilent rfl rfl rfl rfl
  · exact .refl s

theorem groupSymbol_rangeFrame (g : BitVec 4) (pos k : Nat) (s : State) :
    RangeFrame s (groupSymbol g pos k s) :=
  ((emitSymbol_rangeFrame g pos k s).trans (noteBadSymbol_rangeFrame g pos k _)).trans
    (noteNondata_rangeFrame g k _)

theorem groupSymbols_rangeFrame (g : BitVec 4) (n : Nat) : ∀ (j : Nat) (v : Word32) (s : State),
    RangeFrame s (groupSymbols g n j v s).2 := by
  induction n with
  | zero => exact fun _ _ s => .refl s
  | succ n ih => exact fun j v s => (groupSymbol_rangeFrame g j _ s).trans (ih (j + 1) _ _)

/-- The symbols of a group do not move `idx`; GROUP does at its end. -/
@[simp] theorem groupSymbol_idx (g : BitVec 4) (pos k : Nat) (s : State) :
    (groupSymbol g pos k s).par.idx = s.par.idx := by
  unfold groupSymbol noteNondata noteBadSymbol
  split <;> split <;> rfl

@[simp] theorem groupSymbols_idx (g : BitVec 4) (n : Nat) : ∀ (j : Nat) (v : Word32) (s : State),
    (groupSymbols g n j v s).2.par.idx = s.par.idx := by
  induction n with
  | zero => exact fun _ _ _ => rfl
  | succ n ih => exact fun j v s => (ih (j + 1) _ _).trans (groupSymbol_idx g j _ s)

theorem group_rangeFrame (n : Nat) (g : BitVec 4) (s : State) : RangeFrame s (group n g s).2 := by
  unfold group
  split
  · exact .refl s
  · refine (groupSymbols_rangeFrame g n 0 0 s).trans (setIdx_rangeFrame fun h => ?_)
    rw [groupSymbols_idx] at h
    omega

theorem truncatedGroup_rangeFrame (g : BitVec 4) (b : Body) (s : State) :
    RangeFrame s (truncatedGroup g b s) := by
  have hflag : RangeFrame s (setTrunc s) := .ofSilent rfl rfl rfl rfl
  have hemit := hflag.trans (emit_rangeFrame (r := ⟨_, _, b⟩) fun hw => range_ordered hw s.par.idx (nbits s))
  exact hemit.trans (raise_rangeFrame fun hw => range_ordered (s := s) hw _ _)

theorem emitGroupRecord_rangeFrame (n : Nat) (b : Body) (s : State) :
    RangeFrame s (emitGroupRecord n b s) := emit_rangeFrame fun hw => range_ordered hw _ _

theorem setHeader_rangeFrame (h : Header16) (s : State) : RangeFrame s (setHeader h s) :=
  .ofSilent rfl rfl rfl rfl

theorem pushWord_rangeFrame (v : Word32) (s : State) : RangeFrame s (pushWord v s) :=
  .ofSilent rfl rfl rfl rfl

theorem setCrcRx_rangeFrame (v : Word32) (s : State) : RangeFrame s (setCrcRx v s) :=
  .ofSilent rfl rfl rfl rfl

theorem parseHeader_rangeFrame (s : State) : RangeFrame s (parseHeader s) := by
  unfold parseHeader
  have h := group_rangeFrame 4 groupHeader s
  split <;> (rename_i heq; rw [heq] at h)
  · exact ((h.trans (setHeader_rangeFrame _ _)).trans (truncatedGroup_rangeFrame _ _ _)).trans
      (setPhase_rangeFrame _ _)
  · exact ((h.trans (setHeader_rangeFrame _ _)).trans (emitGroupRecord_rangeFrame _ _ _)).trans
      (setPhase_rangeFrame _ _)

theorem parseWord_rangeFrame (w : Nat) (s : State) : RangeFrame s (parseWord w s) := by
  unfold parseWord
  have h := group_rangeFrame 8 (groupWord w) s
  split <;> (rename_i heq; rw [heq] at h)
  · exact (h.trans (pushWord_rangeFrame _ _)).trans (truncatedGroup_rangeFrame _ _ _)
  · exact (h.trans (pushWord_rangeFrame _ _)).trans (emitGroupRecord_rangeFrame _ _ _)

theorem parseWords_rangeFrame (n : Nat) : ∀ (w : Nat) (s : State), RangeFrame s (parseWords n w s) := by
  induction n with
  | zero => exact fun _ s => .refl s
  | succ n ih => exact fun w s => (parseWord_rangeFrame w s).trans (ih (w + 1) _)

theorem parsePayload_rangeFrame (s : State) : RangeFrame s (parsePayload s) := by
  have hclear : RangeFrame s (clearWords s) := .ofSilent rfl rfl rfl rfl
  exact (hclear.trans (parseWords_rangeFrame _ _ _)).trans (setPhase_rangeFrame _ _)

theorem parseTrailerGroup_rangeFrame (s : State) : RangeFrame s (parseTrailerGroup s) := by
  unfold parseTrailerGroup
  have hbegin : RangeFrame s (beginTrailer s) := .ofSilent rfl rfl rfl rfl
  have h := hbegin.trans (group_rangeFrame 8 groupTrailer (beginTrailer s))
  split <;> (rename_i heq; rw [heq] at h)
  · exact (h.trans (setCrcRx_rangeFrame _ _)).trans (truncatedGroup_rangeFrame _ _ _)
  · exact (h.trans (setCrcRx_rangeFrame _ _)).trans (emitGroupRecord_rangeFrame _ _ _)

theorem compareCrc_rangeFrame (s : State) : RangeFrame s (compareCrc s) := by
  unfold compareCrc
  split
  · have hflag : RangeFrame s (setCrcFlag s) := .ofSilent rfl rfl rfl rfl
    exact hflag.trans (raise_rangeFrame fun hw => range_ordered hw _ _)
  · exact .refl s

theorem parseTrailer_rangeFrame (s : State) : RangeFrame s (parseTrailer s) := by
  have hcompute : RangeFrame (parseTrailerGroup s) (computeCrc (parseTrailerGroup s)) :=
    .ofSilent rfl rfl rfl rfl
  exact (((parseTrailerGroup_rangeFrame s).trans hcompute).trans (compareCrc_rangeFrame _)).trans
    (setPhase_rangeFrame _ _)

theorem missingTerminator_rangeFrame {rng : Sample × Sample} {s : State}
    (h : s.win.Ordered → rng.1 ≤ rng.2) : RangeFrame s (missingTerminator rng s) := by
  have hflag : RangeFrame s (setNoeop s) := .ofSilent rfl rfl rfl rfl
  exact hflag.trans (raise_rangeFrame h)

theorem parseTerminator_rangeFrame (s : State) : RangeFrame s (parseTerminator s) := by
  have hsym := emitSymbol_rangeFrame groupTerminator 0 s.par.idx s
  have hrange : s.win.Ordered → (range s s.par.idx (s.par.idx + 5)).1 ≤ (range s s.par.idx (s.par.idx + 5)).2 :=
    fun hw => range_ordered hw _ _
  unfold parseTerminator
  dsimp only
  split
  · split
    · exact (hsym.trans (emit_rangeFrame (r := ⟨_, _, .eop⟩) hrange)).trans
        (setIdx_rangeFrame fun (h : s.par.sopOff < s.par.idx) => show s.par.sopOff < s.par.idx + 5 by omega)
    · exact hsym.trans (missingTerminator_rangeFrame hrange)
  · exact missingTerminator_rangeFrame fun hw => range_ordered hw _ _

/-! ### The three paths and the close -/

theorem emitPreamble_rangeFrame (s : State) : RangeFrame s (emitPreamble s) := by
  unfold emitPreamble
  split
  · exact emit_rangeFrame fun hw => range_ordered hw _ _
  · exact .refl s

theorem emitSopSymbols_rangeFrame (s : State) : RangeFrame s (emitSopSymbols s) :=
  (((emitSymbol_rangeFrame _ _ _ s).trans (emitSymbol_rangeFrame _ _ _ _)).trans
    (emitSymbol_rangeFrame _ _ _ _)).trans (emitSymbol_rangeFrame _ _ _ _)

theorem emitSop_rangeFrame (s : State) : RangeFrame s (emitSop s) :=
  emit_rangeFrame fun hw => range_ordered hw _ _

theorem enterParser_rangeFrame (s : State) : RangeFrame s (enterParser s) :=
  (setIdx_rangeFrame fun _ => Nat.lt_add_of_pos_right (by decide)).trans (setPhase_rangeFrame _ _)

theorem afterSop_rangeFrame (s : State) : RangeFrame s (afterSop s) :=
  (((emitPreamble_rangeFrame s).trans (emitSopSymbols_rangeFrame _)).trans (emitSop_rangeFrame _)).trans
    (enterParser_rangeFrame _)

/-- The parser starts past the 20 bits of the frame start (43_frame_sync.md R90). -/
theorem afterSop_consumed (s : State) : (afterSop s).par.sopOff < (afterSop s).par.idx :=
  Nat.lt_add_of_pos_right (by decide)

theorem afterTerminator_rangeFrame (s : State) : RangeFrame (afterSop s) (afterTerminator s) :=
  (((parseHeader_rangeFrame _).trans (parsePayload_rangeFrame _)).trans (parseTrailer_rangeFrame _)).trans
    (parseTerminator_rangeFrame _)

theorem emitFrame_rangeFrame {s : State} (h : s.par.sopOff < s.par.idx) : RangeFrame s (emitFrame s) :=
  emit_rangeFrame fun hw => frameRange_ordered hw h

theorem emitBitrate_rangeFrame {s : State} (h : s.par.sopOff < s.par.idx) : RangeFrame s (emitBitrate s) :=
  emit_rangeFrame fun hw => frameRange_ordered hw h

theorem frameOutput_rangeFrame (s : State) : RangeFrame s (frameOutput s) := by
  have hparse := afterTerminator_rangeFrame s
  have hframe := emitFrame_rangeFrame (hparse.consumed (afterSop_consumed s))
  have hbitrate := emitBitrate_rangeFrame ((hparse.trans hframe).consumed (afterSop_consumed s))
  exact (((afterSop_rangeFrame s).trans hparse).trans hframe).trans hbitrate

theorem junkOutput_rangeFrame (s : State) : RangeFrame s (junkOutput s) := by
  have hjunk : RangeFrame s (emit ⟨s.win.firstT, s.win.prevT, .junk (nbits s) s.flags.ovf⟩ s) :=
    emit_rangeFrame fun hw => hw.edges
  exact hjunk.trans (raise_rangeFrame fun hw => hw.edges)

theorem resetOutput_rangeFrame (s : State) : RangeFrame s (resetOutput s) :=
  emit_rangeFrame fun hw => range_ordered hw _ _

theorem windowPath_rangesOrdered {s : State} (hw : s.win.Ordered) (hr : s.RangesOrdered) :
    (windowPath s).RangesOrdered := by
  unfold windowPath
  split
  · exact (junkOutput_rangeFrame s).ranges hw hr
  · dsimp only
    split
    · exact (resetOutput_rangeFrame _).ranges hw hr
    · exact (frameOutput_rangeFrame _).ranges hw hr

theorem windowWarnings_ordered {s : State} (hw : s.win.Ordered) : ∀ r ∈ windowWarnings s, r.start ≤ r.stop := by
  intro r hr
  rcases List.mem_append.1 hr with hr | hr
  · obtain ⟨e, he, rfl⟩ := List.mem_map.1 hr
    exact hw.errors e he
  · unfold overflowWarnings at hr
    split at hr
    · exact List.mem_singleton.1 hr ▸ hw.edges
    · exact absurd hr List.not_mem_nil

theorem rawRecords_ordered {s : State} (hw : s.win.Ordered) : ∀ r ∈ rawRecords s, r.start ≤ r.stop := by
  intro r hr
  unfold rawRecords at hr
  split at hr
  · exact List.mem_singleton.1 hr ▸ hw.edges
  · exact absurd hr List.not_mem_nil

theorem closeWindow_rangesOrdered {s : State} (hw : s.win.Ordered) (hr : s.RangesOrdered) :
    (closeWindow s).RangesOrdered := by
  have hwarn : (afterWarnings s).RangesOrdered := by
    rw [afterWarnings_eq]
    exact List.forall_mem_append.2 ⟨hr, windowWarnings_ordered hw⟩
  have hpath : (windowPath (afterWarnings s)).RangesOrdered :=
    windowPath_rangesOrdered (by rwa [afterWarnings_eq]) hwarn
  unfold State.RangesOrdered
  rw [closeWindow_out, closeWork_eq]
  exact List.forall_mem_append.2 ⟨hpath, rawRecords_ordered hw⟩

/-! ### The instructions -/

theorem State.RangesOrdered.of_out {s t : State} (h : t.out = s.out) (hr : s.RangesOrdered) :
    t.RangesOrdered := by
  unfold State.RangesOrdered
  rwa [h]

theorem edgeStarted_rangesOrdered {s : State} (hw : s.win.isOpen = true → s.win.Ordered)
    (hr : s.RangesOrdered) (t : Sample) (l : Bool) : (edgeStarted t l s).RangesOrdered := by
  rcases edgeStarted_cases t l s with ⟨-, h⟩ | ⟨-, -, h⟩ | ⟨-, -, -, h⟩ | ⟨-, ho, -, -, h⟩
    | ⟨-, -, -, -, h⟩ <;> rw [h]
  · exact hr
  · exact hr.of_out (openWindow_out t l s)
  · exact hr.of_out (setInputErr_out s)
  · exact (closeWindow_rangesOrdered (hw ho) hr).of_out (openWindow_out t l _)
  · exact hr.of_out (gapOp_recovery t s).out

theorem tickStarted_rangesOrdered {s : State} (hw : s.win.isOpen = true → s.win.Ordered)
    (hr : s.RangesOrdered) (t : Sample) : (tickStarted t s).RangesOrdered := by
  rcases tickStarted_cases t s with ⟨-, h⟩ | ⟨-, -, h⟩ | ⟨ho, -, h⟩ | ⟨-, -, -, h⟩ <;> rw [h]
  · exact hr
  · exact hr.of_out (setInputErr_out s)
  · exact (closeWindow_rangesOrdered (hw ho) hr).of_out (forgetLevel_out _)
  · exact hr

/-- The guards of an EDGE or TICK add at most FATAL, over `(T, T)`. -/
theorem guarded_rangesOrdered {t : Sample} {k : State → State} {s : State} (hr : s.RangesOrdered)
    (hk : (k s).RangesOrdered) (hks : (k (setStarted s)).RangesOrdered) :
    (unlessFatal (withStartCheck t k) s).RangesOrdered := by
  rcases guarded_cases t k s with ⟨-, h⟩ | ⟨-, -, -, h⟩ | ⟨-, -, -, h⟩ | ⟨-, -, h⟩ <;> rw [h]
  · exact hr
  · exact List.forall_mem_append.2 ⟨hr, by simp⟩
  · exact hks
  · exact hk

theorem exec_rangesOrdered {i : Instr} {s t : State} (hw : s.win.isOpen = true → s.win.Ordered)
    (hr : s.RangesOrdered) (h : exec i s = .next t) : t.RangesOrdered := by
  rcases exec_next_cases h with ⟨T, l, -, rfl⟩ | ⟨T, -, rfl⟩ | ⟨-, rfl⟩ | ⟨-, rfl⟩ | ⟨a, v, -, rfl⟩ | ⟨a, -, rfl⟩
    | ⟨-, -, r, c, rfl⟩
  · exact guarded_rangesOrdered hr (edgeStarted_rangesOrdered hw hr T l)
      (edgeStarted_rangesOrdered (s := setStarted s) hw hr T l)
  · exact guarded_rangesOrdered hr (tickStarted_rangesOrdered hw hr T)
      (tickStarted_rangesOrdered (s := setStarted s) hw hr T)
  · unfold unlessFatal
    split <;> exact hr
  · unfold unlessFatal
    split <;> exact hr
  · split <;> exact hr
  · exact hr
  · exact hr

/-- Settles O10: an open window is ordered by the invariant, and every record of a step is over one of its
ranges, or FATAL over a single sample index. -/
theorem recordRangesStayOrdered : Obligations.RecordRangesStayOrdered := by
  intro s t hi hr h
  rcases step_next h with ⟨-, rfl⟩ | ⟨rest, -, rfl⟩ | ⟨w, rest, i, -, -, hexec⟩
  · exact hr
  · exact hr
  · exact exec_rangesOrdered (s := { s with pending := rest }) hi.ordered hr hexec

end Sys2Proof.Machine
end

section
/-! PROOFS. Bit recovery inverts the BMC encoding (30_encoding.md R59, 41_bit_recovery.md R72 to R74): one cell
is one bit over the cell, and a bit string is its cells one after another. -/

namespace Sys2Proof.Machine

/-! ### Runs -/

theorem runInstrs_cons {i : Instr} {s t : State} (h : exec i s = .next t) (is : List Instr) :
    runInstrs (i :: is) s = runInstrs is t := by
  simp only [runInstrs, h]

theorem runInstrs_append {is : List Instr} : ∀ {s t : State}, runInstrs is s = .next t →
    ∀ js, runInstrs (is ++ js) s = runInstrs js t := by
  induction is with
  | nil =>
    intro s t h js
    cases h
    rfl
  | cons i is ih =>
    intro s t h js
    obtain ⟨u, hu⟩ := exec_is_next i s
    rw [runInstrs_cons hu] at h
    rw [List.cons_append, runInstrs_cons hu, ih h]

/-- A timed edge runs the operation of its gap's class (40_input_events.md R62). -/
theorem exec_edge_timed {s : State} {t : Sample} {l : Bool} (h : s.TimedEdge t l) :
    exec (.edge t l) s = .next (advanceEdge t l (gapOp t s)) := by
  obtain ⟨⟨hfatal, hstarted, hopen⟩, hlevel, hlt, hgap⟩ := h
  have hnle : ¬ t ≤ s.win.prevT := BitVec.not_le.2 hlt
  have hexec : exec (.edge t l) s = .next (edgeStarted t l s) :=
    congrArg Host.Outcome.next (guarded_started hfatal hstarted)
  rw [hexec, ← edgeGap_timed hgap]
  simp [edgeStarted, qualifying, hlevel, hopen, hnle]

/-- The first edge of a started block opens a window (41_bit_recovery.md R69). -/
theorem exec_edge_opens {s : State} (hi : s.Inv) (hfatal : s.status.fatal = false)
    (hstarted : s.status.started = true) (hclosed : s.win.isOpen = false) (t : Sample) (l : Bool) :
    exec (.edge t l) s = .next (openWindow t l s) := by
  obtain ⟨-, -, hempty, -⟩ := hi
  obtain ⟨hlevel, -⟩ := hempty hclosed
  have hexec : exec (.edge t l) s = .next (edgeStarted t l s) :=
    congrArg Host.Outcome.next (guarded_started hfatal hstarted)
  rw [hexec]
  simp [edgeStarted, qualifying, hlevel, hclosed]

/-! ### The half-cell -/

/-- A half-cell that the thresholds tell from a whole cell, neither beyond the idle limit. -/
structure HalfCell (c : CfgRegs) (ui : Sample) : Prop where
  pos : 0 < ui.toNat
  doubled : (2 * ui).toNat = 2 * ui.toNat
  short : gapClass c ui = .short
  long : gapClass c (2 * ui) = .long
  withinIdle : ui ≤ c.thrIdle
  cellWithinIdle : 2 * ui ≤ c.thrIdle

theorem HalfCell.of_thresholds {c : CfgRegs} {ui : Sample} (hv : cfgValid c = true) (hmin : c.thrShortMin ≤ ui)
    (hsplit : ui ≤ c.thrSplit) (hlt : c.thrSplit.toNat < 2 * ui.toNat)
    (hmax : 2 * ui.toNat ≤ c.thrLongMax.toNat) : HalfCell c ui := by
  simp only [cfgValid, Bool.and_eq_true, decide_eq_true_eq] at hv
  obtain ⟨⟨⟨⟨⟨⟨-, hpos⟩, -⟩, -⟩, hidle⟩, -⟩, -⟩ := hv
  have hdouble : (2 * ui).toNat = 2 * ui.toNat := by
    have hfits : 2 * ui.toNat < 2 ^ 64 := hmax.trans_lt c.thrLongMax.isLt
    rw [BitVec.toNat_mul]
    exact Nat.mod_eq_of_lt hfits
  simp only [BitVec.le_def] at hpos hmin hsplit hidle
  have hone : (1 : Reg).toNat = 1 := rfl
  refine ⟨by omega, hdouble, gapClass_short ?_ hmin hsplit, gapClass_long ?_ ?_ ?_ ?_, ?_, ?_⟩
  all_goals simp only [BitVec.le_def, BitVec.lt_def, hdouble]; omega

theorem gapOp_short {t : Sample} {s : State} (h : gapClass s.cfg (t - s.win.prevT) = .short) :
    gapOp t s = shortGap t s := by simp only [gapOp, h]

theorem gapOp_long {t : Sample} {s : State} (h : gapClass s.cfg (t - s.win.prevT) = .long) :
    gapOp t s = longGap t s := by simp only [gapOp, h]

/-- An edge to the other level a gap `g` after the last one, with no wrap, is timed. -/
theorem timedEdge_after {s : State} {g : Sample} {l : Bool} (hdec : s.Decoding) (hlevel : s.win.level = some (!l))
    (hpos : 0 < g.toNat) (hidle : g ≤ s.cfg.thrIdle) (hwrap : s.win.prevT.toNat + g.toNat < 2 ^ 64) :
    s.TimedEdge (s.win.prevT + g) l := by
  refine ⟨hdec, by simp [hlevel], ?_, by rwa [add_sub_cancel_left]⟩
  rw [BitVec.lt_def, BitVec.toNat_add_of_lt hwrap]
  omega

/-! ### The samples of the cells -/

theorem bmcEnd_zero (t ui : Sample) : bmcEnd t ui 0 = t := by simp [bmcEnd]

theorem bmcEnd_succ (t ui : Sample) (n : Nat) : bmcEnd t ui (n + 1) = bmcEnd (t + 2 * ui) ui n := by
  have h : BitVec.ofNat 64 (2 * (n + 1)) = 2 + BitVec.ofNat 64 (2 * n) := by
    rw [Nat.mul_succ, Nat.add_comm, BitVec.ofNat_add]
    rfl
  rw [bmcEnd, bmcEnd, h, BitVec.add_mul, BitVec.add_assoc]

/-- With no wrap, n cells take 2n half-cells. -/
theorem bmcEnd_toNat {t ui : Sample} {n : Nat} (h : t.toNat + 2 * n * ui.toNat < 2 ^ 64) :
    (bmcEnd t ui n).toNat = t.toNat + 2 * n * ui.toNat := by
  simp only [bmcEnd, BitVec.toNat_add, BitVec.toNat_mul, BitVec.toNat_ofNat, Nat.mod_mul_mod, Nat.add_mod_mod]
  exact Nat.mod_eq_of_lt h

/-! ### One cell -/

/-- Between two cells: the last edge was at `t` to level `l`, and no half is pending. -/
structure AtCell (ui t : Sample) (l : Bool) (s : State) : Prop where
  decoding : s.Decoding
  halfCell : HalfCell s.cfg ui
  prevT : s.win.prevT = t
  level : s.win.level = some l
  noHalf : s.win.halfPending = false

/-- The state after the cells of `bs` from `t`, level `l`; `hs` is what the last half left in `half_start`. -/
def afterCells (ui t : Sample) (l : Bool) (bs : List Bool) (hs : Sample) (s : State) : State :=
  { s with win := { s.win with
      prevT := bmcEnd t ui bs.length
      level := some (bmcLevel l bs)
      halfPending := false
      halfStart := hs
      bits := s.win.bits ++ bmcRecords ui t bs } }

theorem AtCell.afterCells {ui t : Sample} {l : Bool} {s : State} (h : AtCell ui t l s) (bs : List Bool)
    (hs : Sample) : AtCell ui (bmcEnd t ui bs.length) (bmcLevel l bs) (afterCells ui t l bs hs s) :=
  ⟨h.decoding, h.halfCell, rfl, rfl, rfl⟩

/-- A "0": one LONG gap (41_bit_recovery.md R74). -/
theorem exec_zeroCell {ui t : Sample} {l : Bool} {s : State} (h : AtCell ui t l s)
    (hroom : bufferFull s = false) (hwrap : t.toNat + 2 * ui.toNat < 2 ^ 64) :
    exec (.edge (t + 2 * ui) (!l)) s = .next (afterCells ui t l [false] s.win.halfStart s) := by
  obtain ⟨hdec, hcell, rfl, hlevel, hhalf⟩ := h
  have hpos := hcell.pos
  have hlong : gapOp (s.win.prevT + 2 * ui) s = memWrite ⟨false, s.win.prevT, s.win.prevT + 2 * ui⟩ s := by
    rw [gapOp_long (by rw [add_sub_cancel_left]; exact hcell.long), longGap, if_neg (by simp [hhalf]),
      memAppend_room hroom]
  rw [exec_edge_timed (timedEdge_after hdec (by simp [hlevel]) (by rw [hcell.doubled]; omega)
    hcell.cellWithinIdle (by rwa [hcell.doubled])), hlong]
  simp [memWrite, advanceEdge, afterCells, hhalf, bmcEnd_succ, bmcEnd_zero, bmcLevel, bmcRecords]

/-- A SHORT gap with no half pending begins a "1" (41_bit_recovery.md R72). -/
theorem exec_firstHalf {ui : Sample} {l : Bool} {s : State} (hdec : s.Decoding) (hcell : HalfCell s.cfg ui)
    (hlevel : s.win.level = some (!l)) (hhalf : s.win.halfPending = false)
    (hwrap : s.win.prevT.toNat + ui.toNat < 2 ^ 64) :
    exec (.edge (s.win.prevT + ui) l) s =
      .next (advanceEdge (s.win.prevT + ui) l (setHalf s s.win.prevT)) := by
  rw [exec_edge_timed (timedEdge_after hdec hlevel hcell.pos hcell.withinIdle hwrap),
    gapOp_short (by rw [add_sub_cancel_left]; exact hcell.short), shortGap, if_neg (by simp [hhalf])]

/-- A SHORT gap with a half pending ends the "1" (41_bit_recovery.md R73). -/
theorem exec_secondHalf {ui : Sample} {l : Bool} {s : State} (hdec : s.Decoding) (hcell : HalfCell s.cfg ui)
    (hlevel : s.win.level = some (!l)) (hhalf : s.win.halfPending = true) (hroom : bufferFull s = false)
    (hwrap : s.win.prevT.toNat + ui.toNat < 2 ^ 64) :
    exec (.edge (s.win.prevT + ui) l) s = .next (advanceEdge (s.win.prevT + ui) l
      (clearHalf (memWrite ⟨true, s.win.halfStart, s.win.prevT + ui⟩ s))) := by
  rw [exec_edge_timed (timedEdge_after hdec hlevel hcell.pos hcell.withinIdle hwrap),
    gapOp_short (by rw [add_sub_cancel_left]; exact hcell.short), shortGap, if_pos hhalf, memAppend_room hroom]

/-- A "1": its two halves. -/
theorem exec_oneCell {ui t : Sample} {l : Bool} {s : State} (h : AtCell ui t l s)
    (hroom : bufferFull s = false) (hwrap : t.toNat + 2 * ui.toNat < 2 ^ 64) :
    runInstrs [.edge (t + ui) (!l), .edge (t + 2 * ui) l] s = .next (afterCells ui t l [true] t s) := by
  obtain ⟨hdec, hcell, rfl, hlevel, hhalf⟩ := h
  have htwo : s.win.prevT + 2 * ui = s.win.prevT + ui + ui := by rw [add_assoc, ← two_mul]
  have hmid : (s.win.prevT + ui).toNat = s.win.prevT.toNat + ui.toNat := BitVec.toNat_add_of_lt (by omega)
  rw [runInstrs_cons (exec_firstHalf hdec hcell (by simp [hlevel]) hhalf (by omega)), htwo]
  have hsecond := exec_secondHalf (ui := ui) (l := l)
    (s := advanceEdge (s.win.prevT + ui) (!l) (setHalf s s.win.prevT)) hdec hcell rfl rfl hroom
    (by rw [advanceEdge_win]; dsimp only; omega)
  refine (runInstrs_cons hsecond []).trans (congrArg Host.Outcome.next ?_)
  simp [memWrite, advanceEdge, clearHalf, setHalf, afterCells, bmcEnd_succ, bmcEnd_zero, bmcLevel, bmcRecords,
    ← htwo]

/-! ### A bit string -/

/-- One cell appends its bit, whatever it is. -/
theorem runInstrs_cell {ui t : Sample} {l b : Bool} {s : State} (h : AtCell ui t l s)
    (hroom : bufferFull s = false) (hwrap : t.toNat + 2 * ui.toNat < 2 ^ 64) :
    ∃ hs, runInstrs (bmcEdges ui t l [b]) s = .next (afterCells ui t l [b] hs s) := by
  cases b with
  | false => exact ⟨_, runInstrs_cons (exec_zeroCell h hroom hwrap) []⟩
  | true => exact ⟨_, exec_oneCell h hroom hwrap⟩

theorem bmcEdges_cons (ui t : Sample) (l b : Bool) (bs : List Bool) :
    bmcEdges ui t l (b :: bs) = bmcEdges ui t l [b] ++ bmcEdges ui (t + 2 * ui) (bmcLevel l [b]) bs := by
  cases b <;> simp [bmcEdges, bmcLevel]

theorem afterCells_cons (ui t : Sample) (l b : Bool) (bs : List Bool) (hs hs' : Sample) (s : State) :
    afterCells ui (t + 2 * ui) (bmcLevel l [b]) bs hs' (afterCells ui t l [b] hs s) =
      afterCells ui t l (b :: bs) hs' s := by
  simp [afterCells, bmcEnd_succ, bmcLevel, bmcRecords]

/-- The edges of a bit string, with room for its bits and no wrap, append exactly those bits. -/
theorem runInstrs_bmcEdges {ui : Sample} (bs : List Bool) : ∀ {t : Sample} {l : Bool} {s : State},
    AtCell ui t l s → (∀ c, s.build.bitCapacity = some c → nbits s + bs.length ≤ c) →
    t.toNat + 2 * bs.length * ui.toNat < 2 ^ 64 →
      ∃ hs, runInstrs (bmcEdges ui t l bs) s = .next (afterCells ui t l bs hs s) := by
  induction bs with
  | nil =>
    intro t l s h _ _
    refine ⟨s.win.halfStart, congrArg Host.Outcome.next ?_⟩
    simp [afterCells, bmcEnd_zero, bmcLevel, bmcRecords, ← h.prevT, ← h.level, ← h.noHalf]
  | cons b bs ih =>
    intro t l s h hcap hwrap
    rw [List.length_cons, Nat.mul_succ, Nat.add_mul] at hwrap
    have hroom : bufferFull s = false := bufferFull_eq_false.2 fun c hc => by
      have := hcap c hc
      simp only [List.length_cons] at this
      omega
    obtain ⟨hs, hcell⟩ := runInstrs_cell (b := b) h hroom (by omega)
    have hnext := h.afterCells [b] hs
    simp only [List.length_singleton, bmcEnd_succ, bmcEnd_zero] at hnext
    have hstart : (t + 2 * ui).toNat = t.toNat + 2 * ui.toNat := by
      rw [BitVec.toNat_add_of_lt (by rw [h.halfCell.doubled]; omega), h.halfCell.doubled]
    obtain ⟨hs', hrest⟩ := ih hnext (fun c hc => by
      have := hcap c hc
      simp only [nbits, afterCells, bmcRecords, List.length_append, List.length_cons, List.length_nil] at this ⊢
      omega) (by omega)
    refine ⟨hs', ?_⟩
    rw [bmcEdges_cons, runInstrs_append hcell, hrest, afterCells_cons]

/-- A BMC expansion from a started block with no window open: the window it leaves. -/
theorem runInstrs_bmc {s : State} {t0 ui : Sample} {l0 : Bool} {bs : List Bool} (hi : s.Inv)
    (hfatal : s.status.fatal = false) (hstarted : s.status.started = true) (hclosed : s.win.isOpen = false)
    (hcap : ∀ c, s.build.bitCapacity = some c → bs.length ≤ c) (hcell : HalfCell s.cfg ui)
    (hwrap : t0.toNat + 2 * bs.length * ui.toNat < 2 ^ 64) :
    ∃ hs, runInstrs (bmc t0 ui l0 bs) s = .next (afterCells ui t0 l0 bs hs (openWindow t0 l0 s)) := by
  have hopened : AtCell ui t0 l0 (openWindow t0 l0 s) := ⟨⟨hfatal, hstarted, rfl⟩, hcell, rfl, rfl, rfl⟩
  obtain ⟨hs, hrun⟩ := runInstrs_bmcEdges bs hopened (fun c hc => (Nat.zero_add _).trans_le (hcap c hc)) hwrap
  exact ⟨hs, (runInstrs_cons (exec_edge_opens hi hfatal hstarted hclosed t0 l0) _).trans hrun⟩

theorem afterCells_openWindow_frame {s : State} (hphase : s.phase = .demodulating) (ui t : Sample) (l : Bool)
    (bs : List Bool) (hs : Sample) :
    afterCells ui t l bs hs (openWindow t l s) =
      { s with win := (afterCells ui t l bs hs (openWindow t l s)).win, flags := FrameFlags.cleared } := by
  simp [afterCells, openWindow, hphase]

/-- Settles O33: the first edge opens the window and each cell appends its bit. -/
theorem bmcEncodingIsInverted : Obligations.BmcEncodingIsInverted := by
  intro s t0 ui l0 bs hi hfatal hstarted hclosed hcap hmin hsplit hlt hmax hwrap
  obtain ⟨-, ⟨hphase, -, hvalid, -⟩, -⟩ := id hi
  have hcell := HalfCell.of_thresholds (hvalid hstarted) hmin hsplit hlt hmax
  obtain ⟨hs, hrun⟩ := runInstrs_bmc (l0 := l0) hi hfatal hstarted hclosed hcap hcell hwrap
  exact ⟨_, hrun, rfl, rfl, bmcEnd_toNat hwrap, rfl, rfl, rfl, rfl, afterCells_openWindow_frame hphase ..⟩

end Sys2Proof.Machine
end

section
/-! PROOFS. Symbols that stand in the bit buffer as they were sent (30_encoding.md R49, R54): the bits of a list
of symbols, read back code group by code group. -/

namespace Sys2Proof.Machine

/-! ### The bits of symbols -/

theorem symBits_append (b : Build) (xs ys : List Sym) : symBits b (xs ++ ys) = symBits b xs ++ symBits b ys :=
  List.flatMap_append

theorem length_codeBits (c : Code) : (codeBits c).length = 5 := by simp [codeBits]

theorem length_symBits (b : Build) (ys : List Sym) : (symBits b ys).length = 5 * ys.length := by
  induction ys with
  | nil => rfl
  | cons y ys ih =>
    rw [symBits, List.flatMap_cons, List.length_append, length_codeBits, ← symBits, ih, List.length_cons]
    omega

/-- MemRead reads the values of its records only. -/
theorem memRead_values (m : Memory) (k n : Nat) :
    memRead m k n = BitVec.ofNat n (bitsValue (((m.map BitRecord.value).drop k).take n)) := by
  rw [memRead, List.map_take, List.map_drop]

theorem ofNat_bitsValue_codeBits (c : Code) : BitVec.ofNat 5 (bitsValue (codeBits c)) = c := by
  revert c
  decide

/-- The code group read where the bits of a code stand. -/
theorem codeAt_of_values {s : State} {pre post : List Bool} {c : Code}
    (h : s.win.bits.map BitRecord.value = pre ++ (codeBits c ++ post)) : codeAt s pre.length = c := by
  rw [codeAt, memRead_values, h, List.drop_left, List.take_left' (length_codeBits c), ofNat_bitsValue_codeBits]

/-! ### The default table has a code for each symbol -/

theorem mem_defaultCodeTable (y : Sym) : y ∈ defaultCodeTable := by
  cases y with
  | data nib =>
    revert nib
    decide
  | _ => decide

/-- The mapper undoes the choice of a code (42_symbol_mapper.md R81). -/
theorem codeSym_codeOfSym {b : Build} (hb : b.codeTable = defaultCodeTable) (y : Sym) :
    codeSym b (codeOfSym b y) = y := by
  have hlt : defaultCodeTable.idxOf y < defaultCodeTable.length :=
    List.idxOf_lt_length_iff.2 (mem_defaultCodeTable y)
  have hfits : defaultCodeTable.idxOf y % 2 ^ 5 = defaultCodeTable.idxOf y := Nat.mod_eq_of_lt hlt
  rw [codeSym, codeOfSym, hb, BitVec.toNat_ofNat, hfits, List.getD_eq_getElem _ _ hlt, List.getElem_idxOf]

/-! ### Symbols in the buffer -/

/-- From bit index `k` on, the buffer holds the codes of the symbols. -/
def SentAt (s : State) : Nat → List Sym → Prop
  | k, [] => k ≤ nbits s
  | k, y :: ys => codeAt s k = codeOfSym s.build y ∧ SentAt s (k + 5) ys

theorem sentAt_of_values {s : State} {post : List Bool} (ys : List Sym) : ∀ {pre : List Bool},
    s.win.bits.map BitRecord.value = pre ++ (symBits s.build ys ++ post) → SentAt s pre.length ys := by
  induction ys with
  | nil =>
    intro pre h
    have hlen := congrArg List.length h
    simp only [List.length_map, List.length_append] at hlen
    simp only [SentAt, nbits]
    omega
  | cons y ys ih =>
    intro pre h
    rw [symBits, List.flatMap_cons, ← symBits, List.append_assoc] at h
    refine ⟨codeAt_of_values h, ?_⟩
    have hrest := ih (pre := pre ++ codeBits (codeOfSym s.build y)) (by rw [h, List.append_assoc])
    rwa [List.length_append, length_codeBits] at hrest

theorem SentAt.le {s : State} {ys : List Sym} : ∀ {k : Nat}, SentAt s k ys → k + 5 * ys.length ≤ nbits s := by
  induction ys with
  | nil => exact id
  | cons y ys ih =>
    intro k h
    have := ih h.2
    rw [List.length_cons]
    omega

theorem SentAt.left {s : State} {xs ys : List Sym} : ∀ {k : Nat}, SentAt s k (xs ++ ys) → SentAt s k xs := by
  induction xs with
  | nil => exact fun h => Nat.le_trans (Nat.le_add_right _ _) h.le
  | cons x xs ih => exact fun h => ⟨h.1, ih h.2⟩

theorem SentAt.right {s : State} {xs ys : List Sym} : ∀ {k : Nat}, SentAt s k (xs ++ ys) →
    SentAt s (k + 5 * xs.length) ys := by
  induction xs with
  | nil => exact id
  | cons x xs ih =>
    intro k h
    have hrest := ih h.2
    rwa [show k + 5 + 5 * xs.length = k + 5 * (x :: xs).length by rw [List.length_cons]; omega] at hrest

theorem SentAt.symAt {s : State} {k : Nat} {y : Sym} {ys : List Sym} (h : SentAt s k (y :: ys))
    (hb : s.build.codeTable = defaultCodeTable) : symAt s k = y := by
  rw [Machine.symAt, h.1, codeSym_codeOfSym hb]

/-! ### The frame start -/

theorem zip_rowSyms (r : SopRow) :
    List.zip (List.range 4) (rowSyms r) = [(0, r.sym0), (1, r.sym1), (2, r.sym2), (3, r.sym3)] := rfl

theorem positionMatch_candidateAt (s : State) (k : Nat) {j : Nat} (hj : j < 4) (y : Sym) :
    positionMatch s.build (candidateAt s k) j y = if symAt s (k + 5 * j) = y then 1 else 0 := by
  rw [positionMatch, candidateCode_candidateAt s k j hj, symAt]

/-- CHOOSE's count at a bit index is that of the symbols there (43_frame_sync.md R85). -/
theorem rowMatches_candidateAt (s : State) (k : Nat) (row : SopRow) :
    rowMatches s.build (candidateAt s k) row = startMatches s k row := by
  rw [rowMatches, positionMatch_candidateAt s k (by decide), positionMatch_candidateAt s k (by decide),
    positionMatch_candidateAt s k (by decide), positionMatch_candidateAt s k (by decide), startMatches, zip_rowSyms]
  simp only [List.countP_cons, List.countP_nil, decide_eq_true_eq]
  omega

/-- A frame start that stands as sent matches in all four places. -/
theorem startMatches_of_sent {s : State} {k : Nat} {row : SopRow} (hb : s.build.codeTable = defaultCodeTable)
    (h : SentAt s k (rowSyms row)) : startMatches s k row = 4 := by
  have h0 := h.symAt hb
  have h1 := SentAt.symAt h.2 hb
  have h2 := SentAt.symAt h.2.2 hb
  have h3 := SentAt.symAt h.2.2.2 hb
  simp [startMatches, zip_rowSyms, h0, h1, h2, h3]

/-- Four matches fix the four symbols. -/
theorem rowMatches_eq_four {b : Build} {p : Candidate} {r : SopRow} (h : rowMatches b p r = 4) :
    rowSyms r = (List.range 4).map fun j => codeSym b (candidateCode p j) := by
  have h0 := positionMatch_le b p 0 r.sym0
  have h1 := positionMatch_le b p 1 r.sym1
  have h2 := positionMatch_le b p 2 r.sym2
  have h3 := positionMatch_le b p 3 r.sym3
  have hall : ∀ {j y}, positionMatch b p j y = 1 → y = codeSym b (candidateCode p j) := by
    intro j y hj
    unfold positionMatch at hj
    split at hj
    · next heq => exact heq.symm
    · cases hj
  unfold rowMatches at h
  simp [rowSyms, List.range, List.range.loop, ← hall (show positionMatch b p 0 r.sym0 = 1 by omega),
    ← hall (show positionMatch b p 1 r.sym1 = 1 by omega), ← hall (show positionMatch b p 2 r.sym2 = 1 by omega),
    ← hall (show positionMatch b p 3 r.sym3 = 1 by omega)]

theorem eq_of_rowSyms_eq : ∀ r ∈ defaultSopTable, ∀ r' ∈ defaultSopTable, rowSyms r = rowSyms r' → r = r' := by
  decide

/-- An exact match is taken at every threshold, and no two rows match the same candidate exactly
(43_frame_sync.md R87). -/
theorem choose_of_exact {b : Build} {row : SopRow} {p : Candidate} (hb : b.sopTable = defaultSopTable)
    (hrow : row ∈ defaultSopTable) (h : rowMatches b p row = 4) (minMatch : BitVec 3) :
    choose b minMatch p = some row := by
  have hexact : b.sopTable.find? (fun r => decide (rowMatches b p r = 4)) = some row := by
    cases hf : b.sopTable.find? fun r => decide (rowMatches b p r = 4) with
    | none => exact absurd (decide_eq_true h) (List.find?_eq_none.1 hf row (hb ▸ hrow))
    | some r =>
      have hr : rowMatches b p r = 4 := of_decide_eq_true (List.find?_some hf :)
      have hsyms : rowSyms r = rowSyms row := (rowMatches_eq_four hr).trans (rowMatches_eq_four h).symm
      rw [eq_of_rowSyms_eq r (hb ▸ List.mem_of_find?_eq_some hf) row hrow hsyms]
  simp only [choose, hexact]

end Sys2Proof.Machine
end

section
/-! PROOFS. The frame parser on a frame that stands in the buffer as it was sent (44_frame_parser.md R93 to
R100): what each part consumes, stores and emits. -/

namespace Sys2Proof.Machine

/-! ### A parser's step as an equation -/

/-- `s` with the phase, the parser registers and the output moved on, as a part of the parser leaves it that
meets no error. -/
def State.parsed (s : State) (p : Phase) (q : ParserRegs) (rs : List Record) : State :=
  { s with phase := p, par := q, out := s.out ++ rs }

@[simp] theorem parsed_parsed (s : State) (p p' : Phase) (q q' : ParserRegs) (rs rs' : List Record) :
    (s.parsed p q rs).parsed p' q' rs' = s.parsed p' q' (rs ++ rs') := by
  simp [State.parsed]

@[simp] theorem parsed_win (s : State) (p : Phase) (q : ParserRegs) (rs : List Record) :
    (s.parsed p q rs).win = s.win := rfl
@[simp] theorem parsed_phase (s : State) (p : Phase) (q : ParserRegs) (rs : List Record) :
    (s.parsed p q rs).phase = p := rfl
@[simp] theorem parsed_par (s : State) (p : Phase) (q : ParserRegs) (rs : List Record) :
    (s.parsed p q rs).par = q := rfl
@[simp] theorem parsed_out (s : State) (p : Phase) (q : ParserRegs) (rs : List Record) :
    (s.parsed p q rs).out = s.out ++ rs := rfl
@[simp] theorem emit_parsed (r : Record) (s : State) (p : Phase) (q : ParserRegs) (rs : List Record) :
    emit r (s.parsed p q rs) = s.parsed p q (rs ++ [r]) := by simp [emit, State.parsed]
@[simp] theorem setIdx_parsed (k : Nat) (s : State) (p : Phase) (q : ParserRegs) (rs : List Record) :
    setIdx k (s.parsed p q rs) = s.parsed p { q with idx := k } rs := rfl
@[simp] theorem setPhase_parsed (s : State) (p p' : Phase) (q : ParserRegs) (rs : List Record) :
    setPhase p' (s.parsed p q rs) = s.parsed p' q rs := rfl
@[simp] theorem setHeader_parsed (h : Header16) (s : State) (p : Phase) (q : ParserRegs) (rs : List Record) :
    setHeader h (s.parsed p q rs) = s.parsed p { q with hdr := h, count := hdrCount h } rs := rfl
@[simp] theorem pushWord_parsed (v : Word32) (s : State) (p : Phase) (q : ParserRegs) (rs : List Record) :
    pushWord v (s.parsed p q rs) = s.parsed p { q with words := q.words ++ [v] } rs := rfl
@[simp] theorem setCrcRx_parsed (v : Word32) (s : State) (p : Phase) (q : ParserRegs) (rs : List Record) :
    setCrcRx v (s.parsed p q rs) = s.parsed p { q with crcRx := v } rs := rfl
@[simp] theorem computeCrc_parsed (s : State) (p : Phase) (q : ParserRegs) (rs : List Record) :
    computeCrc (s.parsed p q rs) =
      s.parsed p { q with crcCalc := crc32 s.build.crcAlgo (ser q.hdr q.words) } rs := rfl
@[simp] theorem sentSymbols_parsed (s : State) (p : Phase) (q : ParserRegs) (rs : List Record) :
    sentSymbols (s.parsed p q rs) = sentSymbols s := rfl

/-- The buffer and the tables, which the parser leaves, decide what stands in it. -/
theorem SentAt.parsed {s : State} {ys : List Sym} (p : Phase) (q : ParserRegs) (rs : List Record) :
    ∀ {k : Nat}, SentAt s k ys → SentAt (s.parsed p q rs) k ys := by
  induction ys with
  | nil => exact id
  | cons y ys ih => exact fun h => ⟨h.1, ih h.2⟩

/-! ### Symbols and groups -/

/-- The SYMBOL record of a symbol that arrives as sent in place `j` of the group at bit index `k`. -/
def sentSymbol (s : State) (g : BitVec 4) (k j : Nat) (y : Sym) : Record :=
  recordOver (bitSpan s (k + 5 * j) (k + 5 * j + 5)) (.symbol (codeOfSym s.build y) (symCode y) g (BitVec.ofNat 3 j))

theorem sentSymbols_eq (s : State) (g : BitVec 4) (k : Nat) (ys : List Sym) :
    sentSymbols s g k ys = ys.mapIdx (sentSymbol s g k) := rfl

/-- A data symbol raises nothing and sets no flag (44_frame_parser.md R94). -/
theorem groupSymbol_of_data {g : BitVec 4} {pos k : Nat} {s : State} (h : symIsData (symAt s k) = true) :
    groupSymbol g pos k s = emitSymbol g pos k s := by
  have hsym : symAt (emitSymbol g pos k s) k = symAt s k := symAt_congr rfl rfl k
  have hne : symAt s k ≠ .error := fun he => by rw [he] at h; cases h
  have hbad : noteBadSymbol g pos k (emitSymbol g pos k s) = emitSymbol g pos k s := by
    rw [noteBadSymbol, hsym, if_neg hne]
  rw [groupSymbol, hbad, noteNondata, hsym, if_neg (by simp [h])]

/-- The SYMBOL record of a code group inside the buffer (46_window_output.md R116). -/
theorem emitSymbol_received {s : State} {k j : Nat} (hle : k + 5 * j + 5 ≤ nbits s) (g : BitVec 4) :
    emitSymbol g j (k + 5 * j) s = s.parsed s.phase s.par [receivedSymbol s g k j] := by
  rw [emitSymbol, range_eq_bitSpan hle]
  rfl

theorem emitSymbol_sent {s : State} {g : BitVec 4} {k j : Nat} {y : Sym} {ys : List Sym}
    (hb : s.build.codeTable = defaultCodeTable) (h : SentAt s (k + 5 * j) (y :: ys)) :
    emitSymbol g j (k + 5 * j) s = s.parsed s.phase s.par [sentSymbol s g k j y] := by
  have hle := h.le
  rw [List.length_cons] at hle
  rw [emitSymbol_received (by omega), receivedSymbol, h.symAt hb, h.1, sentSymbol]

/-- Data symbol `j` of a group's value, and its lower `j` symbols as a value. -/
def dataSym (v : Word32) (j : Nat) : Sym := .data (v.extractLsb' (4 * j) 4)

def lowNibbles (v : Word32) (j : Nat) : Word32 := (v.setWidth (4 * j)).setWidth 32

theorem valueSyms_eq (n : Nat) (v : Word32) : valueSyms n v = (List.range' 0 n).map (dataSym v) := by
  rw [valueSyms, List.range_eq_range']
  rfl

theorem length_valueSyms (n : Nat) (v : Word32) : (valueSyms n v).length = n := by simp [valueSyms]

theorem lowNibbles_zero (v : Word32) : lowNibbles v 0 = 0 := by
  ext i hi
  simp [lowNibbles]

/-- Nibble `j` goes to bits 4j+3 to 4j (20_memory.md R37). -/
theorem lowNibbles_succ (v : Word32) (j : Nat) :
    lowNibbles v j ||| groupTerm (dataSym v j) j = lowNibbles v (j + 1) := by
  ext i hi
  have hsub : 4 * j ≤ i → 4 * j + (i - 4 * j) = i := by omega
  simp only [lowNibbles, groupTerm, dataSym, symNibble, BitVec.getElem_or, BitVec.getElem_setWidth,
    BitVec.getElem_shiftLeft, BitVec.getLsbD_setWidth, BitVec.getLsbD_extractLsb']
  by_cases hlow : i < 4 * j
  · simp [hlow, show i < 4 * (j + 1) by omega]
  · by_cases hhigh : i < 4 * (j + 1)
    · simp [hlow, hhigh, hsub (by omega), show i - 4 * j < 4 by omega]
    · simp [hlow, hhigh, show ¬ i - 4 * j < 4 by omega]

theorem lowNibbles_eight (v : Word32) : lowNibbles v 8 = v := by simp [lowNibbles]

theorem lowNibbles_header (h : Header16) : (lowNibbles (h.setWidth 32) 4).setWidth 16 = h := by
  ext i hi
  simp [lowNibbles]

/-- Symbols `j` to `j + n - 1` of a value that stands in the buffer: a SYMBOL each, and the value so far. -/
theorem groupSymbols_sent {g : BitVec 4} {v : Word32} (n : Nat) : ∀ {j : Nat} {s : State},
    s.build.codeTable = defaultCodeTable → SentAt s (s.par.idx + 5 * j) ((List.range' j n).map (dataSym v)) →
    groupSymbols g n j (lowNibbles v j) s = (lowNibbles v (j + n), s.parsed s.phase s.par
      (((List.range' j n).map (dataSym v)).mapIdx fun i => sentSymbol s g s.par.idx (j + i))) := by
  induction n with
  | zero =>
    intro j s _ _
    simp [groupSymbols, State.parsed]
  | succ n ih =>
    intro j s hb h
    rw [List.range'_succ, List.map_cons] at h
    have hsym : symAt s (s.par.idx + 5 * j) = dataSym v j := h.symAt hb
    have hstep : groupSymbol g j (s.par.idx + 5 * j) s =
        s.parsed s.phase s.par [sentSymbol s g s.par.idx j (dataSym v j)] := by
      rw [groupSymbol_of_data (by rw [hsym]; rfl), emitSymbol_sent hb h]
    have hrest := ih (j := j + 1) (s := s.parsed s.phase s.par [sentSymbol s g s.par.idx j (dataSym v j)])
      hb (SentAt.parsed _ _ _ h.2)
    have hrec : ∀ i, sentSymbol (s.parsed s.phase s.par [sentSymbol s g s.par.idx j (dataSym v j)]) g s.par.idx i =
        sentSymbol s g s.par.idx i := fun _ => rfl
    rw [groupSymbols, hsym, lowNibbles_succ, hstep, hrest, List.range'_succ, List.map_cons, List.mapIdx_cons]
    simp only [parsed_par, parsed_phase, parsed_parsed, hrec, Nat.add_assoc, Nat.add_comm 1, Nat.add_zero,
      List.singleton_append]

/-- A group that stands in the buffer as sent is decoded to its value (44_frame_parser.md R94). -/
theorem group_sent {n : Nat} {g : BitVec 4} {v : Word32} {s : State} (hb : s.build.codeTable = defaultCodeTable)
    (h : SentAt s s.par.idx (valueSyms n v)) :
    group n g s = (some (lowNibbles v n), s.parsed s.phase { s.par with idx := s.par.idx + 5 * n }
      (sentSymbols s g s.par.idx (valueSyms n v))) := by
  have hle := h.le
  rw [length_valueSyms] at hle
  rw [valueSyms_eq] at h
  have hsyms := groupSymbols_sent (g := g) (j := 0) n hb h
  rw [lowNibbles_zero] at hsyms
  rw [group, if_neg (by omega), hsyms, valueSyms_eq, sentSymbols_eq]
  simp only [Nat.zero_add]
  rfl

/-- A group's value record is over the bits the group consumed (46_window_output.md R117). -/
theorem emitGroupRecord_parsed {n k : Nat} {s : State} {q : ParserRegs} (hidx : q.idx = k + 5 * n)
    (hle : k + 5 * n ≤ nbits s) (body : Body) (p : Phase) (rs : List Record) :
    emitGroupRecord n body (s.parsed p q rs) =
      s.parsed p q (rs ++ [recordOver (bitSpan s k (k + 5 * n)) body]) := by
  have hrange : range (s.parsed p q rs) k (k + 5 * n) = bitSpan s k (k + 5 * n) := range_eq_bitSpan hle
  rw [emitGroupRecord, parsed_par, hidx, Nat.add_sub_cancel, hrange, emit_parsed]
  rfl

theorem sentGroup_eq (s : State) (g : BitVec 4) (k n : Nat) (v : Word32) (body : Body) :
    sentGroup s g k (valueSyms n v) body =
      sentSymbols s g k (valueSyms n v) ++ [recordOver (bitSpan s k (k + 5 * n)) body] := by
  rw [sentGroup, length_valueSyms]

/-! ### Header, data words, trailer and terminator -/

theorem toNat_hdrCount (h : Header16) : (hdrCount h).toNat = sentCount h := by
  simp [hdrCount, sentCount, Nat.shiftRight_eq_div_pow]

/-- The fields of a header by their bit positions (44_frame_parser.md R97). -/
theorem headerBody_eq_sentHeader (h : Header16) : headerBody h false = sentHeader h := by
  have hcut : ∀ i n, h.extractLsb' i n = BitVec.ofNat n (h.toNat / 2 ^ i) := fun i n => by
    rw [BitVec.extractLsb', Nat.shiftRight_eq_div_pow]
  have hcount : hdrCount h = BitVec.ofNat 3 (sentCount h) := by
    rw [← toNat_hdrCount, BitVec.ofNat_toNat, BitVec.setWidth_eq]
  have hdata : hdrCount h ≠ 0 ↔ sentCount h ≠ 0 := by
    rw [← toNat_hdrCount, ne_eq, ne_eq, ← BitVec.toNat_inj]
    rfl
  simp only [headerBody, sentHeader, hdrMsgType, hdrDataRole, hdrSpecRev, hdrPowerRole, hdrMsgId, hdrBit15, hcut,
    hcount.symm, hdata]
  norm_num

theorem parseHeader_sent {h : Header16} {s : State} (hb : s.build.codeTable = defaultCodeTable)
    (hs : SentAt s s.par.idx (valueSyms 4 (h.setWidth 32))) :
    parseHeader s = s.parsed .payload { s.par with idx := s.par.idx + 20, hdr := h, count := hdrCount h }
      (sentGroup s 1 s.par.idx (valueSyms 4 (h.setWidth 32)) (.header (sentHeader h))) := by
  have hle := hs.le
  rw [length_valueSyms] at hle
  unfold parseHeader
  rw [group_sent hb hs]
  dsimp only
  rw [lowNibbles_header, headerBody_eq_sentHeader, setHeader_parsed, emitGroupRecord_parsed rfl hle, sentGroup_eq]
  rfl

theorem parseWord_sent {w : Nat} {v : Word32} {s : State} (hb : s.build.codeTable = defaultCodeTable)
    (hs : SentAt s s.par.idx (valueSyms 8 v)) :
    parseWord w s = s.parsed s.phase { s.par with idx := s.par.idx + 40, words := s.par.words ++ [v] }
      (sentGroup s (BitVec.ofNat 4 (2 + w)) s.par.idx (valueSyms 8 v) (.word (BitVec.ofNat 3 w) v false)) := by
  have hle := hs.le
  rw [length_valueSyms] at hle
  unfold parseWord
  rw [group_sent hb hs]
  dsimp only
  rw [lowNibbles_eight, pushWord_parsed, emitGroupRecord_parsed rfl hle, sentGroup_eq]
  rfl

/-- The records of data words `w` on, that stand from bit index `k` on. -/
def wordGroupsFrom (s : State) (w k : Nat) (words : List Word32) : List Record :=
  (words.mapIdx fun i v => sentGroup s (BitVec.ofNat 4 (2 + (w + i))) (k + 40 * i) (valueSyms 8 v)
    (.word (BitVec.ofNat 3 (w + i)) v false)).flatten

theorem wordGroupsFrom_cons (s : State) (w k : Nat) (v : Word32) (words : List Word32) :
    wordGroupsFrom s w k (v :: words) =
      sentGroup s (BitVec.ofNat 4 (2 + w)) k (valueSyms 8 v) (.word (BitVec.ofNat 3 w) v false)
        ++ wordGroupsFrom s (w + 1) (k + 40) words := by
  simp only [wordGroupsFrom, List.mapIdx_cons, List.flatten_cons, Nat.add_zero, Nat.mul_zero, Nat.mul_add,
    Nat.add_assoc, Nat.add_comm 1, Nat.add_comm 40, Nat.mul_one]

theorem wordGroupsFrom_zero (s : State) (k : Nat) (words : List Word32) :
    wordGroupsFrom s 0 (k + 40) words = sentWordGroups s k words := by
  simp only [wordGroupsFrom, sentWordGroups, Nat.zero_add]

theorem parseWords_sent (words : List Word32) : ∀ {w : Nat} {s : State},
    s.build.codeTable = defaultCodeTable → SentAt s s.par.idx (words.flatMap (valueSyms 8)) →
    parseWords words.length w s = s.parsed s.phase
      { s.par with idx := s.par.idx + 40 * words.length, words := s.par.words ++ words }
      (wordGroupsFrom s w s.par.idx words) := by
  induction words with
  | nil =>
    intro w s _ _
    simp [parseWords, State.parsed, wordGroupsFrom]
  | cons v words ih =>
    intro w s hb hs
    rw [List.flatMap_cons] at hs
    have hrest := hs.right
    rw [length_valueSyms] at hrest
    rw [List.length_cons, parseWords, parseWord_sent hb hs.left, ih, wordGroupsFrom_cons]
    · simp only [parsed_par, parsed_phase, parsed_parsed, List.append_assoc, List.singleton_append, Nat.mul_add,
        Nat.add_assoc, Nat.add_comm 40, Nat.mul_one]
      rfl
    · exact hb
    · exact hrest.parsed _ _ _

theorem parsePayload_sent {words : List Word32} {s : State} (hb : s.build.codeTable = defaultCodeTable)
    (hcount : s.par.count.toNat = words.length) (hs : SentAt s s.par.idx (words.flatMap (valueSyms 8))) :
    parsePayload s = s.parsed .crc { s.par with idx := s.par.idx + 40 * words.length, words := words }
      (wordGroupsFrom s 0 s.par.idx words) := by
  have hclear : clearWords s = s.parsed s.phase { s.par with words := [] } [] := by
    simp [clearWords, State.parsed]
  rw [parsePayload, hcount, hclear, parseWords_sent]
  · simp only [parsed_par, parsed_parsed, setPhase_parsed, List.nil_append]
    rfl
  · exact hb
  · exact hs.parsed _ _ _

theorem parseTrailerGroup_sent {crc : Word32} {s : State} (hb : s.build.codeTable = defaultCodeTable)
    (hs : SentAt s s.par.idx (valueSyms 8 crc)) :
    parseTrailerGroup s = s.parsed s.phase { s.par with
        idx := s.par.idx + 40, crcStart := s.par.idx, crcNondata := false, crcRx := crc }
      (sentGroup s 9 s.par.idx (valueSyms 8 crc) (.crc crc false)) := by
  have hle := hs.le
  rw [length_valueSyms] at hle
  have hbegin : beginTrailer s =
      s.parsed s.phase { s.par with crcStart := s.par.idx, crcNondata := false } [] := by
    simp [beginTrailer, State.parsed]
  unfold parseTrailerGroup
  rw [hbegin, group_sent (v := crc) (by exact hb) (by exact hs.parsed _ _ _)]
  dsimp only
  rw [parsed_parsed, List.nil_append, sentSymbols_parsed, lowNibbles_eight, setCrcRx_parsed,
    emitGroupRecord_parsed rfl hle, sentGroup_eq]
  rfl

/-- A trailer that holds the checksum of the header and words before it passes the check
(44_frame_parser.md R99, 45_checksum.md R105). -/
theorem parseTrailer_sent {crc : Word32} {s : State} (hb : s.build.codeTable = defaultCodeTable)
    (hcrc : crc = crc32 s.build.crcAlgo (ser s.par.hdr s.par.words))
    (hs : SentAt s s.par.idx (valueSyms 8 crc)) :
    parseTrailer s = s.parsed .eop { s.par with
        idx := s.par.idx + 40, crcStart := s.par.idx, crcNondata := false, crcRx := crc, crcCalc := crc }
      (sentGroup s 9 s.par.idx (valueSyms 8 crc) (.crc crc false)) := by
  have hcompute : computeCrc (parseTrailerGroup s) = s.parsed s.phase { s.par with
        idx := s.par.idx + 40, crcStart := s.par.idx, crcNondata := false, crcRx := crc, crcCalc := crc }
      (sentGroup s 9 s.par.idx (valueSyms 8 crc) (.crc crc false)) := by
    rw [parseTrailerGroup_sent hb hs, computeCrc_parsed]
    dsimp only
    rw [← hcrc]
  rw [parseTrailer, checkCrc, hcompute, compareCrc, if_neg (by simp), setPhase_parsed]

/-- An END-OF-PACKET ends the frame (44_frame_parser.md R100). -/
theorem parseTerminator_sent {s : State} (hb : s.build.codeTable = defaultCodeTable)
    (hs : SentAt s s.par.idx [.eop]) :
    parseTerminator s = s.parsed s.phase { s.par with idx := s.par.idx + 5 } (sentTerminator s s.par.idx) := by
  have hle : s.par.idx + 5 ≤ nbits s := hs.le
  have hemit := emitSymbol_sent (g := groupTerminator) (j := 0) hb hs
  unfold parseTerminator
  dsimp only
  rw [Nat.mul_zero, Nat.add_zero] at hemit
  have hsym : symAt (emitSymbol groupTerminator 0 s.par.idx s) s.par.idx = .eop :=
    (symAt_congr rfl rfl _).trans (hs.symAt hb)
  rw [if_pos (by omega), if_pos hsym, range_eq_bitSpan hle, hemit]
  rw [emit_parsed, setIdx_parsed]
  rfl

/-! ### The frame start -/

@[simp] theorem receivedSymbol_parsed (s : State) (p : Phase) (q : ParserRegs) (rs : List Record) :
    receivedSymbol (s.parsed p q rs) = receivedSymbol s := rfl

theorem emitPreamble_eq {s : State} (hle : s.par.sopOff ≤ nbits s) : emitPreamble s = s.parsed s.phase s.par
    (if 0 < s.par.sopOff then [recordOver (bitSpan s 0 s.par.sopOff) .preamble] else []) := by
  unfold emitPreamble
  split
  · dsimp only
    rw [range_eq_bitSpan hle]
    rfl
  · simp [State.parsed]

theorem emitSopSymbols_eq {s : State} (hle : s.par.sopOff + 20 ≤ nbits s) : emitSopSymbols s =
    s.parsed s.phase s.par ((List.range 4).map (receivedSymbol s 0 s.par.sopOff)) := by
  have hstep : ∀ (rs : List Record) (j : Nat), j < 4 →
      emitSymbol 0 j (s.par.sopOff + 5 * j) (s.parsed s.phase s.par rs) =
        s.parsed s.phase s.par (rs ++ [receivedSymbol s 0 s.par.sopOff j]) := fun rs j hj => by
    have hin : s.par.sopOff + 5 * j + 5 ≤ nbits (s.parsed s.phase s.par rs) := by
      simp only [nbits, parsed_win] at hle ⊢
      omega
    rw [emitSymbol_received hin, parsed_phase, parsed_par, parsed_parsed, receivedSymbol_parsed]
  have hstart : s = s.parsed s.phase s.par [] := by simp [State.parsed]
  calc emitSopSymbols s
      = emitSymbol 0 3 (s.par.sopOff + 5 * 3) (emitSymbol 0 2 (s.par.sopOff + 5 * 2)
          (emitSymbol 0 1 (s.par.sopOff + 5 * 1) (emitSymbol 0 0 (s.par.sopOff + 5 * 0)
            (s.parsed s.phase s.par [])))) := by rw [← hstart]; rfl
    _ = _ := by
      rw [hstep _ 0 (by decide), hstep _ 1 (by decide), hstep _ 2 (by decide), hstep _ 3 (by decide)]
      rfl

theorem emitSop_eq {s : State} (hle : s.par.sopOff + 20 ≤ nbits s) : emitSop s = s.parsed s.phase s.par
    [recordOver (bitSpan s s.par.sopOff (s.par.sopOff + 20)) (.sop s.par.sopKind s.par.sopMatches)] := by
  rw [emitSop, range_eq_bitSpan hle]
  rfl

/-- The frame start as received, whichever candidate was accepted (46_window_output.md R114, R115). -/
theorem afterSop_eq {s : State} {row : SopRow} (hle : s.par.sopOff + 20 ≤ nbits s)
    (hkind : s.par.sopKind = row.kind)
    (hmatches : s.par.sopMatches = BitVec.ofNat 3 (startMatches s s.par.sopOff row)) :
    afterSop s =
      s.parsed .header { s.par with idx := s.par.sopOff + 20 } (startRecords s s.par.sopOff row) := by
  rw [afterSop, emitPreamble_eq (by omega), emitSopSymbols_eq (by exact hle), parsed_parsed,
    emitSop_eq (by exact hle), parsed_parsed, startRecords, ← hkind, ← hmatches]
  rfl

/-! ### FRAME and BITRATE -/

theorem frameRange_eq_bitSpan {s : State} (hlt : s.par.sopOff < s.par.idx) (hle : s.par.idx ≤ nbits s) :
    frameRange s = bitSpan s s.par.sopOff s.par.idx := by
  rw [← range_eq_bitSpan hle, range_of_lt hlt, frameRange]

/-- The rate over a window that is not empty (46_window_output.md R120). -/
theorem bitrate_eq {s : State} (h : s.win.firstT < s.win.prevT) : bitrate s =
    BitVec.ofNat 64 (s.cfg.sampleRate.toNat * nbits s / (s.win.prevT.toNat - s.win.firstT.toNat)) := by
  have hspan : (s.win.prevT - s.win.firstT).toNat = s.win.prevT.toNat - s.win.firstT.toNat :=
    BitVec.toNat_sub_of_le (BitVec.le_of_lt h)
  have hne : s.win.prevT - s.win.firstT ≠ 0 := fun he => by
    rw [he] at hspan
    have := BitVec.lt_def.1 h
    have hzero : (0 : Sample).toNat = 0 := rfl
    omega
  unfold bitrate
  dsimp only
  rw [if_neg hne, hspan]

/-- FRAME, then BITRATE, over the bits consumed. -/
theorem emitFrame_emitBitrate {s : State} {f : FrameBody} (hlt : s.par.sopOff < s.par.idx)
    (hle : s.par.idx ≤ nbits s) (hspan : s.win.firstT < s.win.prevT) (hf : frameBody s = f) :
    (emitBitrate (emitFrame s)).out = s.out ++ frameRecords s s.par.sopOff s.par.idx f := by
  have hrate : bitrate (emitFrame s) = _ := bitrate_eq (s := emitFrame s) hspan
  have hrange : frameRange (emitFrame s) = frameRange s := rfl
  rw [emitBitrate, emit_out, hrate, hrange, emitFrame, emit_out, hf, frameRange_eq_bitSpan hlt hle, frameRecords,
    List.append_assoc]
  rfl

/-! ### The frame -/

/-- The parser registers after a frame that arrives as sent. -/
def cleanRegs (q : ParserRegs) (h : Header16) (words : List Word32) (crc : Word32) : ParserRegs :=
  { q with
    idx := q.sopOff + 40 + 40 * words.length + 45
    hdr := h
    count := hdrCount h
    words := words
    crcStart := q.sopOff + 40 + 40 * words.length
    crcRx := crc
    crcNondata := false
    crcCalc := crc }

theorem length_flatMap_valueSyms (words : List Word32) :
    (words.flatMap (valueSyms 8)).length = 8 * words.length := by
  simp [List.length_flatMap, length_valueSyms, Nat.mul_comm]

/-- The frame parser on a frame whose every group stands as sent. -/
theorem afterTerminator_sent {s : State} {row : SopRow} {h : Header16} {words : List Word32} {crc : Word32}
    (hb : s.build.codeTable = defaultCodeTable) (hkind : s.par.sopKind = row.kind)
    (hmatches : s.par.sopMatches = BitVec.ofNat 3 (startMatches s s.par.sopOff row))
    (hcount : words.length = sentCount h) (hcrc : crc = crc32 s.build.crcAlgo (ser h words))
    (hs : SentAt s (s.par.sopOff + 20) (bodySyms h words crc)) :
    afterTerminator s = s.parsed .eop (cleanRegs s.par h words crc)
      (sentThroughTrailer s s.par.sopOff row h words crc
        ++ sentTerminator s (s.par.sopOff + 80 + 40 * words.length)) := by
  have hle : s.par.sopOff + 20 ≤ nbits s := Nat.le_trans (Nat.le_add_right _ _) hs.le
  have hheader : SentAt s (s.par.sopOff + 20) (valueSyms 4 (h.setWidth 32)) := hs.left.left.left
  have hwords : SentAt s (s.par.sopOff + 40) (words.flatMap (valueSyms 8)) := hs.left.left.right
  have htrailer : SentAt s (s.par.sopOff + 40 + 40 * words.length) (valueSyms 8 crc) := by
    have := hs.left.right
    rw [List.length_append, length_valueSyms, length_flatMap_valueSyms] at this
    convert this using 1
    omega
  have hend : SentAt s (s.par.sopOff + 80 + 40 * words.length) [.eop] := by
    have := hs.right
    rw [List.length_append, List.length_append, length_valueSyms, length_valueSyms, length_flatMap_valueSyms] at this
    convert this using 1
    omega
  have hparsedHeader : parseHeader (afterSop s) = s.parsed .payload
      { s.par with idx := s.par.sopOff + 40, hdr := h, count := hdrCount h }
      (startRecords s s.par.sopOff row ++ sentHeaderGroup s s.par.sopOff h) := by
    rw [afterSop_eq hle hkind hmatches, parseHeader_sent (by exact hb) (by exact hheader.parsed _ _ _),
      parsed_parsed]
    rfl
  have hparsedPayload : parsePayload (parseHeader (afterSop s)) = s.parsed .crc
      { s.par with
        idx := s.par.sopOff + 40 + 40 * words.length, hdr := h, count := hdrCount h, words := words }
      (startRecords s s.par.sopOff row ++ sentHeaderGroup s s.par.sopOff h
        ++ sentWordGroups s s.par.sopOff words) := by
    rw [hparsedHeader, parsePayload_sent (words := words) (by exact hb)
      (by exact (toNat_hdrCount h).trans hcount.symm) (by exact hwords.parsed _ _ _), parsed_parsed,
      ← wordGroupsFrom_zero]
    rfl
  rw [afterTerminator, hparsedPayload, parseTrailer_sent (by exact hb) (by exact hcrc)
    (by exact htrailer.parsed _ _ _), parsed_parsed, parseTerminator_sent (by exact hb) (by
      dsimp only [parsed_par]
      convert hend.parsed _ _ _ using 1
      omega), parsed_parsed, show s.par.sopOff + 80 + 40 * words.length =
      s.par.sopOff + 40 + 40 * words.length + 40 by omega]
  rfl

/-- A FRAME body has 7 words, of which a count of three bits fills at most all (46_window_output.md R118). -/
theorem paddedWords_eq {h : Header16} {words : List Word32} (hcount : words.length = sentCount h) :
    (words ++ List.replicate 7 (0 : Word32)).take 7 = words ++ List.replicate (7 - words.length) 0 := by
  have hfew : words.length ≤ 7 := by
    rw [hcount, sentCount]
    omega
  rw [List.take_append, List.take_of_length_le hfew, List.take_replicate, Nat.min_eq_left (Nat.sub_le _ _)]

/-- With no flag set but `f_ovf`, that flag alone decides whether the frame is valid
(46_window_output.md R119). -/
theorem frameBody_sent {s : State} {row : SopRow} {h : Header16} {words : List Word32} {crc : Word32}
    (hkind : s.par.sopKind = row.kind)
    (hmatches : s.par.sopMatches = BitVec.ofNat 3 (startMatches s s.par.sopOff row))
    (hcount : words.length = sentCount h) (hflags : s.flags = { FrameFlags.cleared with ovf := s.flags.ovf })
    (p : Phase) (rs : List Record) :
    frameBody (s.parsed p (cleanRegs s.par h words crc) rs) =
      cleanFrameBody s s.par.sopOff row h words crc := by
  have hhdrCount : hdrCount h = BitVec.ofNat 3 (sentCount h) := by
    rw [← toNat_hdrCount, BitVec.ofNat_toNat, BitVec.setWidth_eq]
  have hvalid : frameValid s.flags = !s.flags.ovf := by
    rw [hflags]
    simp [frameValid, FrameFlags.cleared]
  have hbody : frameBody (s.parsed p (cleanRegs s.par h words crc) rs) = ⟨s.par.sopKind, s.par.sopMatches, h,
      hdrCount h, (words ++ List.replicate 7 0).take 7, crc, crc, s.flags.trunc, s.flags.badsym, s.flags.crc,
      s.flags.noeop, s.flags.ovf, frameValid s.flags, s.win.demodErrs.length, nbits s⟩ := rfl
  rw [hbody, paddedWords_eq hcount, hkind, hmatches, hhdrCount, hvalid, hflags]
  rfl

/-- The frame path on a window whose frame stands as sent after its frame start
(46_window_output.md R114). -/
theorem frameOutput_sent {s : State} {row : SopRow} {h : Header16} {words : List Word32} {crc : Word32}
    (hb : s.build.codeTable = defaultCodeTable) (hkind : s.par.sopKind = row.kind)
    (hmatches : s.par.sopMatches = BitVec.ofNat 3 (startMatches s s.par.sopOff row))
    (hcount : words.length = sentCount h) (hcrc : crc = crc32 s.build.crcAlgo (ser h words))
    (hflags : s.flags = { FrameFlags.cleared with ovf := s.flags.ovf }) (hspan : s.win.firstT < s.win.prevT)
    (hs : SentAt s (s.par.sopOff + 20) (bodySyms h words crc)) :
    (frameOutput s).out = s.out ++ cleanFrameRecords s s.par.sopOff row h words crc := by
  have hle : s.par.sopOff + 40 + 40 * words.length + 45 ≤ nbits s := by
    have := hs.le
    rw [bodySyms, List.length_append, List.length_append, List.length_append, length_valueSyms, length_valueSyms,
      length_flatMap_valueSyms, List.length_singleton] at this
    omega
  have hlt : s.par.sopOff < s.par.sopOff + 40 + 40 * words.length + 45 := by omega
  rw [frameOutput_eq, afterTerminator_sent hb hkind hmatches hcount hcrc hs,
    emitFrame_emitBitrate (by exact hlt) (by exact hle) (by exact hspan)
      (by exact frameBody_sent hkind hmatches hcount hflags _ _),
    parsed_out, cleanFrameRecords, List.append_assoc,
    show s.par.sopOff + 80 + 40 * words.length = s.par.sopOff + 40 + 40 * words.length + 40 by omega]
  rfl

end Sys2Proof.Machine
end

section
/-! PROOFS. A frame sent in BMC after an alternating preamble (46_window_output.md R125 (b)): the scan passes over
the preamble, and the frame path reports the frame as it was sent. -/

namespace Sys2Proof.Machine

/-! ### The bits of a BMC expansion -/

theorem bmcRecords_values (ui : Sample) (bs : List Bool) : ∀ t,
    (bmcRecords ui t bs).map BitRecord.value = bs := by
  induction bs with
  | nil => exact fun _ => rfl
  | cons b bs ih => exact fun t => congrArg (b :: ·) (ih _)

theorem length_bmcRecords (ui t : Sample) (bs : List Bool) : (bmcRecords ui t bs).length = bs.length := by
  have := congrArg List.length (bmcRecords_values ui bs t)
  rwa [List.length_map] at this

/-- Bit k covers its own cell (30_encoding.md R59). -/
theorem bmcRecords_getElem? (ui : Sample) (bs : List Bool) : ∀ (t : Sample) (k : Nat),
    (bmcRecords ui t bs)[k]? = bs[k]?.map fun b => ⟨b, bmcEnd t ui k, bmcEnd t ui (k + 1)⟩ := by
  induction bs with
  | nil => exact fun _ _ => rfl
  | cons b bs ih =>
    intro t k
    cases k with
    | zero => simp [bmcRecords, bmcEnd_succ, bmcEnd_zero]
    | succ k => simp [bmcRecords, ih, bmcEnd_succ]

/-- The span of bits a to b - 1 of a BMC expansion: from the start of cell a to the end of cell b - 1. -/
theorem bitSpan_bmcRecords {s : State} {ui t : Sample} {bs : List Bool} (hbits : s.win.bits = bmcRecords ui t bs)
    {a b : Nat} (hab : a < b) (hb : b ≤ bs.length) : bitSpan s a b = (bmcEnd t ui a, bmcEnd t ui b) := by
  have hlast : b - 1 + 1 = b := by omega
  rw [bitSpan, if_pos hab, hbits, bmcRecords_getElem?, bmcRecords_getElem?,
    List.getElem?_eq_getElem (show a < bs.length by omega),
    List.getElem?_eq_getElem (show b - 1 < bs.length by omega)]
  simp [hlast]

/-! ### The preamble -/

theorem length_alternating (p : Bool) (n : Nat) : (alternating p n).length = n := by
  induction n generalizing p with
  | zero => rfl
  | succ n ih => rw [alternating, List.length_cons, ih]

theorem take_alternating (p : Bool) (m n : Nat) : (alternating p n).take m = alternating p (min m n) := by
  induction n generalizing p m with
  | zero => simp [alternating]
  | succ n ih =>
    cases m with
    | zero => simp [alternating]
    | succ m => rw [alternating, List.take_succ_cons, ih, Nat.succ_min_succ, alternating]

/-- What is left of a preamble is a preamble. -/
theorem drop_alternating (p : Bool) (j n : Nat) : ∃ p', (alternating p n).drop j = alternating p' (n - j) := by
  induction j generalizing p n with
  | zero => exact ⟨p, rfl⟩
  | succ j ih =>
    cases n with
    | zero => exact ⟨p, by rw [alternating, List.drop_nil, Nat.zero_sub, alternating]⟩
    | succ n =>
      rw [alternating, List.drop_succ_cons, Nat.succ_sub_succ]
      exact ih (!p) n

/-- The 20-bit candidate of a list of bits, the first received in bit 0 (30_encoding.md R51). -/
def candidateOf (bs : List Bool) : Candidate := BitVec.ofNat 20 (bitsValue (bs.take 20))

theorem candidateAt_eq (s : State) (k : Nat) :
    candidateAt s k = candidateOf ((s.win.bits.map BitRecord.value).drop k) := memRead_values _ _ _

/-- A candidate sees at most 20 bits of the preamble before it, and of the frame start as many as are left. -/
theorem candidateOf_preamble (p : Bool) (n : Nat) {start : List Bool} (rest : List Bool)
    (hstart : start.length = 20) :
    candidateOf (alternating p (n + 1) ++ (start ++ rest)) =
      candidateOf (alternating p (min n 19 + 1) ++ start) := by
  have hseen : min 20 (n + 1) = min 20 (min n 19 + 1) := by omega
  have hleft : 20 - (n + 1) = 20 - (min n 19 + 1) := by omega
  have hrest : 20 - (min n 19 + 1) - 20 = 0 := by omega
  simp only [candidateOf, List.take_append, take_alternating, length_alternating, hstart, hseen, hleft, hrest,
    List.take_zero, List.append_nil]

/-- At threshold 3 no candidate that begins inside the preamble is accepted, of whichever frame start its last
bits are. -/
theorem choose_preamble : ∀ n < 20, ∀ p : Bool, ∀ row ∈ defaultSopTable, sopClass row.kind ≠ .reset →
    choose defaultBuild 3 (candidateOf (alternating p (n + 1) ++ symBits defaultBuild (rowSyms row))) = none := by
  decide +kernel

/-! ### The scan -/

/-- CHOOSE and the bits of symbols depend on the two tables only, not on the rest of the build. -/
theorem choose_of_tables {b : Build} (hcode : b.codeTable = defaultCodeTable) (hsop : b.sopTable = defaultSopTable)
    (minMatch : BitVec 3) (p : Candidate) : choose b minMatch p = choose defaultBuild minMatch p := by
  simp only [choose, rowMatches, positionMatch, codeSym, hcode, hsop]
  rfl

theorem symBits_of_table {b : Build} (hcode : b.codeTable = defaultCodeTable) (ys : List Sym) :
    symBits b ys = symBits defaultBuild ys := by
  simp only [symBits, codeOfSym, hcode]
  rfl

/-- After a preamble, the first accepted candidate is the frame start (43_frame_sync.md R86). -/
theorem syncScan_sent {s : State} {p : Bool} {L : Nat} {row : SopRow} {rest : List Bool}
    (hcode : s.build.codeTable = defaultCodeTable) (hsop : s.build.sopTable = defaultSopTable)
    (hmin : s.cfg.sopMinMatch = 3) (hrow : row ∈ defaultSopTable) (hclass : sopClass row.kind ≠ .reset)
    (hbits : s.win.bits.map BitRecord.value = alternating p L ++ (symBits s.build (rowSyms row) ++ rest)) :
    syncScan s = some ⟨L, row⟩ := by
  have hsent : SentAt s L (rowSyms row) := by
    have := sentAt_of_values (rowSyms row) hbits
    rwa [length_alternating] at this
  have hfits : L + 20 ≤ nbits s := hsent.le
  refine (scanFrom_some _ _).2 ⟨Nat.zero_le _, show L < 0 + (nbits s - 19) by omega, ?_,
    fun j _ (hj : j < L) => ?_⟩
  · refine choose_of_exact hsop hrow ?_ _
    rw [rowMatches_candidateAt, startMatches_of_sent hcode hsent]
  · obtain ⟨p', hleft⟩ := drop_alternating p j L
    obtain ⟨n, hn⟩ : ∃ n, L - j = n + 1 := ⟨L - j - 1, by omega⟩
    have hcand : candidateAt s j =
        candidateOf (alternating p' (min n 19 + 1) ++ symBits defaultBuild (rowSyms row)) := by
      rw [candidateAt_eq, hbits, List.drop_append_of_le_length (by rw [length_alternating]; omega), hleft, hn,
        candidateOf_preamble _ _ _ (length_symBits _ _), symBits_of_table hcode]
    rw [chooseAt, hmin, hcand, choose_of_tables hcode hsop]
    exact choose_preamble _ (by omega) _ row hrow hclass

/-! ### The close -/

/-- A close whose frame start is found at bit index `k`, ordinary or extended, with the rest of the frame as
sent after it (46_window_output.md R110, R114). -/
theorem closeWindow_out_sent {s : State} {k : Nat} {row : SopRow} {h : Header16} {words : List Word32}
    {crc : Word32} (hcode : s.build.codeTable = defaultCodeTable) (hscan : syncScan s = some ⟨k, row⟩)
    (hclass : sopClass row.kind ≠ .reset) (hcount : words.length = sentCount h)
    (hcrc : crc = crc32 s.build.crcAlgo (ser h words))
    (hflags : s.flags = { FrameFlags.cleared with ovf := s.flags.ovf }) (hspan : s.win.firstT < s.win.prevT)
    (hsent : SentAt s (k + 20) (bodySyms h words crc)) :
    (closeWindow s).out =
      s.out ++ windowWarnings s ++ cleanFrameRecords s k row h words crc ++ rawRecords s := by
  have haccept : acceptHit ⟨k, row⟩ (afterWarnings s) = s.parsed .synchronizing
      { s.par with
        sopOff := k, sopKind := row.kind, sopMatches := BitVec.ofNat 3 (startMatches s k row) }
      (windowWarnings s) := by
    rw [afterWarnings_eq, ← rowMatches_candidateAt]
    rfl
  have hpath : (windowPath (afterWarnings s)).out =
      s.out ++ windowWarnings s ++ cleanFrameRecords s k row h words crc := by
    rw [windowPath_frame_path ((syncScan_afterWarnings s).trans hscan) hclass, haccept]
    exact frameOutput_sent hcode rfl rfl hcount hcrc hflags hspan (hsent.parsed _ _ _)
  rw [closeWindow_out, closeWork_eq, hpath]

/-- A TICK beyond the idle limit closes the window (40_input_events.md R63). -/
theorem exec_tick_closes {s : State} {t : Sample} (hdec : s.Decoding) (hidle : s.IdleAt t) :
    exec (.tick t) s = .next (forgetLevel (closeWindow s)) := by
  obtain ⟨hfatal, hstarted, hopen⟩ := hdec
  obtain ⟨hle, hgap⟩ := hidle
  have hexec : exec (.tick t) s = .next (tickStarted t s) :=
    congrArg Host.Outcome.next (guarded_started hfatal hstarted)
  rw [hexec]
  simp [tickStarted, hopen, hgap, BitVec.not_lt.2 hle]

theorem idleAt_after {s : State} {d : Sample} (hidle : s.cfg.thrIdle < d)
    (hwrap : s.win.prevT.toNat + d.toNat < 2 ^ 64) : s.IdleAt (s.win.prevT + d) := by
  refine ⟨?_, by rwa [add_sub_cancel_left]⟩
  rw [BitVec.le_def, BitVec.toNat_add_of_lt hwrap]
  omega

/-! ### The window of a BMC expansion -/

/-- `m` is `s` with the window that the BMC expansion of `bs` from `t0` leaves open. -/
structure BmcWindow (s : State) (ui t0 : Sample) (bs : List Bool) (m : State) : Prop where
  decoding : m.Decoding
  build : m.build = s.build
  cfg : m.cfg = s.cfg
  out : m.out = s.out
  flags : m.flags = FrameFlags.cleared
  firstT : m.win.firstT = t0
  prevT : m.win.prevT = bmcEnd t0 ui bs.length
  bits : m.win.bits = bmcRecords ui t0 bs
  demodErrs : m.win.demodErrs = []

theorem runInstrs_bmc_window {s : State} {t0 ui : Sample} {l0 : Bool} {bs : List Bool} (hi : s.Inv)
    (hfatal : s.status.fatal = false) (hstarted : s.status.started = true) (hclosed : s.win.isOpen = false)
    (hcap : s.build.bitCapacity = none) (hcell : HalfCell s.cfg ui)
    (hwrap : t0.toNat + 2 * bs.length * ui.toNat < 2 ^ 64) :
    ∃ m, runInstrs (bmc t0 ui l0 bs) s = .next m ∧ BmcWindow s ui t0 bs m := by
  have hroom : ∀ c, s.build.bitCapacity = some c → bs.length ≤ c := fun c hc => by rw [hcap] at hc; cases hc
  obtain ⟨hs, hrun⟩ := runInstrs_bmc (l0 := l0) hi hfatal hstarted hclosed hroom hcell hwrap
  exact ⟨_, hrun, ⟨hfatal, hstarted, rfl⟩, rfl, rfl, rfl, rfl, rfl, rfl, rfl, rfl⟩

namespace BmcWindow

variable {s m : State} {ui t0 : Sample} {bs : List Bool}

theorem values (hm : BmcWindow s ui t0 bs m) : m.win.bits.map BitRecord.value = bs := by
  rw [hm.bits, bmcRecords_values]

theorem nbits (hm : BmcWindow s ui t0 bs m) : nbits m = bs.length := by
  rw [Machine.nbits, hm.bits, length_bmcRecords]

/-- Nothing went wrong on the line, so the close begins with no warning. -/
theorem windowWarnings (hm : BmcWindow s ui t0 bs m) : windowWarnings m = [] := by
  simp [Machine.windowWarnings, demodWarnings, overflowWarnings, hm.demodErrs, hm.flags, FrameFlags.cleared]

theorem span (hm : BmcWindow s ui t0 bs m) (hui : 0 < ui.toNat) (hne : 0 < bs.length)
    (hwrap : t0.toNat + 2 * bs.length * ui.toNat < 2 ^ 64) : m.win.firstT < m.win.prevT := by
  have hcells : 0 < 2 * bs.length * ui.toNat := Nat.mul_pos (by omega) hui
  rw [hm.firstT, hm.prevT, BitVec.lt_def, bmcEnd_toNat hwrap]
  omega

end BmcWindow

/-- Settles O56: the BMC expansion leaves a window that holds the bits sent, the scan finds the frame start after
the preamble, and the frame path reports what stands there. -/
theorem sentFramesAreReceived : Obligations.SentFramesAreReceived := by
  intro s t0 ui d l0 p L row h words crc bs hi hfatal hstarted hclosed htables hcap hmin hrow hclass hcount hcrc hbs
    hshort hsplit hlt hmax hidle hwrap
  obtain ⟨hcode, hsop, -⟩ := htables
  obtain ⟨-, ⟨-, -, hvalid, -⟩, -⟩ := id hi
  have hcell := HalfCell.of_thresholds (hvalid hstarted) hshort hsplit hlt hmax
  have hcells : t0.toNat + 2 * bs.length * ui.toNat < 2 ^ 64 := by omega
  obtain ⟨m, hrun, hm⟩ := runInstrs_bmc_window (l0 := l0) hi hfatal hstarted hclosed hcap hcell hcells
  rw [← hm.build] at hcode hsop hcrc hbs
  rw [← hm.cfg] at hmin hidle
  have hvalues : m.win.bits.map BitRecord.value =
      alternating p L ++ (symBits m.build (frameSyms row h words crc) ++ []) := by
    rw [hm.values, hbs, List.append_nil]
  have hsent : SentAt m L (frameSyms row h words crc) := by
    have := sentAt_of_values _ hvalues
    rwa [length_alternating] at this
  have hlen : L + 20 ≤ bs.length := hm.nbits ▸ hsent.left.le
  have hscan : syncScan m = some ⟨L, row⟩ := by
    rw [frameSyms, symBits_append, List.append_assoc] at hvalues
    exact syncScan_sent hcode hsop hmin hrow hclass hvalues
  have hclose := closeWindow_out_sent hcode hscan hclass hcount hcrc (by rw [hm.flags])
    (hm.span hcell.pos (by omega) hcells) hsent.right
  have htick : exec (idleTick (bmcEnd t0 ui bs.length) d) m = .next (forgetLevel (closeWindow m)) := by
    rw [idleTick, ← hm.prevT]
    exact exec_tick_closes hm.decoding
      (idleAt_after hidle (by rw [hm.prevT, bmcEnd_toNat hcells]; exact hwrap))
  have hstart : 2 * L * ui.toNat ≤ 2 * bs.length * ui.toNat := Nat.mul_le_mul_right _ (by omega)
  refine ⟨m, _, hrun, hm.bits, hm.firstT, hm.prevT, hm.demodErrs, by rw [hm.flags]; rfl, hm.cfg, hm.build,
    (runInstrs_append hrun _).trans (runInstrs_cons htick []), ?_, startMatches_of_sent hcode hsent.left, ?_, ?_, ?_⟩
  · rw [forgetLevel_out, hclose, hm.windowWarnings, List.append_nil, hm.out]
  · rw [bitSpan_bmcRecords hm.bits (by omega) (le_refl _)]
    exact bmcEnd_toNat (by omega)
  · rw [bitSpan_bmcRecords hm.bits (by omega) (le_refl _)]
  · rw [forgetLevel_win, closeWindow_win]

end Sys2Proof.Machine
end

section
/-! PROOFS. The configuration port, address by address (40_input_events.md R60, R61): the lock, the register an
address names, and the words of CTRL and STATUS as sums of their bit fields. -/

namespace Sys2Proof.Machine

/-! ### The register an address names -/

/-- Every address past STATUS is reserved (10_state.md R14). -/
theorem cfgRegAt_reserved {a : Reg} (h : 7 ≤ a.toNat) : cfgRegAt a = .reserved := by
  have hne : ∀ n < 7, a ≠ BitVec.ofNat 64 n := fun n hn e => by
    rw [e, BitVec.toNat_ofNat] at h
    omega
  simp [cfgRegAt, hne 0, hne 1, hne 2, hne 3, hne 4, hne 5, hne 6]

/-- STATUS and the reserved addresses ignore a write. -/
theorem writeCfg_readOnly {a : Reg} (h : 6 ≤ a.toNat) (v : Reg) (c : CfgRegs) :
    writeCfg (cfgRegAt a) v c = c := by
  rcases Nat.eq_or_lt_of_le h with hstatus | hreserved
  · obtain rfl : a = 6 := BitVec.eq_of_toNat_eq hstatus.symm
    rfl
  · rw [cfgRegAt_reserved hreserved]
    rfl

/-! ### CFGW -/

theorem exec_cfgw_locked {s : State} (hs : s.status.started = true) (a v : Reg) :
    exec (.cfgw a v) s = .next s :=
  congrArg Host.Outcome.next (if_pos hs)

theorem exec_cfgw_unlocked {s : State} (hs : s.status.started = false) (a v : Reg) :
    exec (.cfgw a v) s = .next { s with cfg := writeCfg (cfgRegAt a) v s.cfg } :=
  congrArg Host.Outcome.next (if_neg (by simp [hs]))

theorem writesByAddress {s : State} (hs : s.status.started = false) (v : Reg) : s.WritesByAddress v := by
  have hwrite := exec_cfgw_unlocked hs
  refine ⟨hwrite 0 v, hwrite 1 v, hwrite 2 v, hwrite 3 v, hwrite 4 v, hwrite 5 v, fun a ha => ?_⟩
  rw [hwrite, writeCfg_readOnly ha]

/-- Settles O15: the lock keeps every write out, and without it the address chooses the register. -/
theorem cfgwWritesTheNamedRegister : Obligations.CfgwWritesTheNamedRegister :=
  fun _ v => ⟨fun a hs => exec_cfgw_locked hs a v, fun hs => writesByAddress hs v⟩

/-! ### The words of CTRL and STATUS -/

theorem bitAt_toNat {k : Nat} (hk : k < 64) (b : Bool) : (bitAt b k).toNat = 2 ^ k * b.toNat := by
  have hpow : 2 ^ k < 2 ^ 64 := Nat.pow_lt_pow_right (by decide) hk
  cases b
  · simp [bitAt]
  · simpa [bitAt, Nat.shiftLeft_eq] using hpow

/-- A bit below every bit of a word adds its place value: the fields do not overlap. -/
theorem toNat_or_bitAt {w : Reg} {n k : Nat} (hw : w.toNat = n) (hk : k < 64) (hn : 2 ^ (k + 1) ∣ n) (b : Bool) :
    (w ||| bitAt b k).toNat = n + 2 ^ k * b.toNat := by
  obtain ⟨m, rfl⟩ := hn
  have hbit : 2 ^ k * b.toNat < 2 ^ (k + 1) := by
    rw [pow_succ]
    exact Nat.mul_lt_mul_of_pos_left (Nat.lt_succ_of_le b.toNat_le) (Nat.two_pow_pos k)
  rw [BitVec.toNat_or, bitAt_toNat hk, hw, Nat.two_pow_add_eq_or_of_lt hbit]

/-- The CTRL word: RAWDUMP_EN above the three bits of SOP_MIN_MATCH (40_input_events.md R61). -/
theorem ctrlWord_eq (c : CfgRegs) :
    ctrlWord c = BitVec.ofNat 64 (8 * c.rawdumpEn.toNat + c.sopMinMatch.toNat) := by
  have hmatch := c.sopMinMatch.isLt
  have hfields : (ctrlWord c).toNat = 8 * c.rawdumpEn.toNat + c.sopMinMatch.toNat := by
    rw [ctrlWord, BitVec.toNat_or, bitAt_toNat (by decide), BitVec.toNat_setWidth_of_le (by decide)]
    exact (Nat.two_pow_add_eq_or_of_lt hmatch _).symm
  exact (BitVec.toNat_eq_nat.1 hfields).2

/-- PHASE fills bits [8:6] of STATUS, above the stored bits. -/
theorem phaseField_toNat (p : Phase) :
    ((phaseCode p).setWidth 64 <<< 6 : Reg).toNat = 64 * (phaseCode p).toNat := by
  cases p <;> rfl

/-- The STATUS word, its fields from PHASE down to STARTED (10_state.md R18). -/
theorem statusWord_eq (s : State) :
    statusWord s = BitVec.ofNat 64 (64 * (phaseCode s.phase).toNat + 32 * s.win.isOpen.toNat
      + 16 * s.status.overflow.toNat + 8 * s.status.badev.toNat + 4 * s.status.inputErr.toNat
      + 2 * s.status.fatal.toNat + s.status.started.toNat) := by
  have hopen := toNat_or_bitAt (k := 5) (phaseField_toNat s.phase) (by decide) (by omega) s.win.isOpen
  have hoverflow := toNat_or_bitAt (k := 4) hopen (by decide) (by omega) s.status.overflow
  have hbadev := toNat_or_bitAt (k := 3) hoverflow (by decide) (by omega) s.status.badev
  have hinputErr := toNat_or_bitAt (k := 2) hbadev (by decide) (by omega) s.status.inputErr
  have hfatal := toNat_or_bitAt (k := 1) hinputErr (by decide) (by omega) s.status.fatal
  have hstarted := toNat_or_bitAt (k := 0) hfatal (by decide) (by omega) s.status.started
  exact (BitVec.toNat_eq_nat.1 (hstarted.trans (by omega))).2

/-! ### CFGR -/

theorem exec_cfgr (a : Reg) (s : State) :
    exec (.cfgr a) s = .next { s with rdata := readCfg (cfgRegAt a) s } := rfl

theorem readsByAddress (s : State) : s.ReadsByAddress := by
  refine ⟨exec_cfgr 0 s, exec_cfgr 1 s, exec_cfgr 2 s, exec_cfgr 3 s, exec_cfgr 4 s, ?_, ?_, fun a ha => ?_⟩
  · rw [← ctrlWord_eq]
    exact exec_cfgr 5 s
  · rw [← statusWord_eq]
    exact exec_cfgr 6 s
  · rw [exec_cfgr, cfgRegAt_reserved ha]
    rfl

/-- Between two steps the block is in phase DEMODULATING, whose code is 0 (10_state.md R22). -/
theorem State.Inv.phaseCode_eq {s : State} (hi : s.Inv) : phaseCode s.phase = 0 := by
  obtain ⟨-, ⟨hphase, -⟩, -⟩ := hi
  rw [hphase]
  rfl

/-- Settles O16: the address chooses the register, CTRL and STATUS read as the sums of their fields, and the
invariant fixes the phase. -/
theorem cfgrReturnsTheNamedRegister : Obligations.CfgrReturnsTheNamedRegister :=
  fun s => ⟨readsByAddress s, fun hi => congrArg BitVec.toNat hi.phaseCode_eq⟩

end Sys2Proof.Machine
end

section
/-! PROOFS. The input events behind their guards: the fatal stop (60_exceptions.md R140), the start check
(40_input_events.md R66), the reserved event (R65) and TICK (R63). -/

namespace Sys2Proof.Machine

/-! ### The fatal stop and the start check, for every event they guard -/

theorem unlessFatal_stopped {s : State} (hfatal : s.status.fatal = true) (k : State → State) :
    unlessFatal k s = s :=
  if_pos hfatal

theorem unlessFatal_running {s : State} (hfatal : s.status.fatal = false) (k : State → State) :
    unlessFatal k s = k s :=
  if_neg (by simp [hfatal])

/-- In the fatal stop every input event is dropped with no effect (60_exceptions.md R140). -/
theorem exec_event_stopped {i : Instr} {s : State} (hi : i.isEvent) (hfatal : s.status.fatal = true) :
    exec i s = .next s := by
  cases i with
  | edge | tick | eos | rsvd => exact congrArg Host.Outcome.next (unlessFatal_stopped hfatal _)
  | _ => exact hi.elim

/-- EDGE and TICK, the instructions that run the start check, run some operation behind it. -/
theorem exec_checked {i : Instr} {t : Sample} (hi : i.checkTime = some t) :
    ∃ k, ∀ s, exec i s = .next (unlessFatal (withStartCheck t k) s) := by
  cases i with
  | edge t' l =>
    cases hi
    exact ⟨edgeStarted t l, fun _ => rfl⟩
  | tick t' =>
    cases hi
    exact ⟨tickStarted t, fun _ => rfl⟩
  | _ => cases hi

/-- The start check passes: the event acts as in a started block. -/
theorem exec_check_passes {i : Instr} {t : Sample} {s : State} (hi : i.checkTime = some t)
    (hfatal : s.status.fatal = false) (hstarted : s.status.started = false) (hvalid : cfgValid s.cfg = true) :
    exec i s = exec i (setStarted s) := by
  obtain ⟨k, hk⟩ := exec_checked hi
  rw [hk, hk, guarded_started (s := setStarted s) hfatal rfl, unlessFatal_running hfatal]
  simp [withStartCheck, hstarted, hvalid]

/-- The start check fails: the event is dropped and the block enters the fatal stop. -/
theorem exec_entersFatal {i : Instr} {t : Sample} {s : State} (h : EntersFatal i t s) :
    exec i s = .next (enterFatal t s) := by
  obtain ⟨hi, hfatal, hstarted, hinvalid⟩ := h
  obtain ⟨k, hk⟩ := exec_checked hi
  rw [hk, unlessFatal_running hfatal]
  simp [withStartCheck, hstarted, hinvalid]

/-- Settles O18: EDGE and TICK both run the start check at their own sample index. -/
theorem startCheckDecides : Obligations.StartCheckDecides := by
  intro s t l hfatal hstarted
  constructor
  · intro hvalid
    exact ⟨exec_check_passes rfl hfatal hstarted hvalid, exec_check_passes rfl hfatal hstarted hvalid⟩
  · intro hinvalid i hi
    have hcheck : i.checkTime = some t := by rcases hi with rfl | rfl <;> rfl
    exact exec_entersFatal ⟨hcheck, hfatal, hstarted, hinvalid⟩

/-! ### The reserved event -/

theorem exec_rsvd_running {s : State} (hfatal : s.status.fatal = false) :
    exec .rsvd s = .next (setBadev s) :=
  congrArg Host.Outcome.next (unlessFatal_running hfatal setBadev)

/-- Settles O20: the fatal stop drops the event, and out of it BADEV is set. -/
theorem reservedEventSetsBadev : Obligations.ReservedEventSetsBadev :=
  fun _ => ⟨exec_event_stopped trivial, exec_rsvd_running⟩

/-! ### TICK in a started block -/

theorem exec_tick_started {s : State} (hfatal : s.status.fatal = false) (hstarted : s.status.started = true)
    (t : Sample) : exec (.tick t) s = .next (tickStarted t s) :=
  congrArg Host.Outcome.next (guarded_started hfatal hstarted)

theorem tickStarted_closed {s : State} (hclosed : s.win.isOpen = false) (t : Sample) : tickStarted t s = s :=
  if_pos hclosed

theorem tickStarted_early {s : State} {t : Sample} (hopen : s.win.isOpen = true) (ht : t < s.win.prevT) :
    tickStarted t s = setInputErr s := by
  simp [tickStarted, hopen, ht]

theorem tickStarted_within {s : State} {t : Sample} (hopen : s.win.isOpen = true) (ht : s.win.prevT ≤ t)
    (hidle : ¬ s.IdleAt t) : tickStarted t s = s := by
  have hgap : ¬ s.cfg.thrIdle < t - s.win.prevT := fun hlt => hidle ⟨ht, hlt⟩
  simp [tickStarted, hopen, hgap, BitVec.not_lt.2 ht]

/-- The idle limit over natural values: at or after `prev_t` the gap does not wrap. -/
theorem idleAt_iff {s : State} {t : Sample} :
    s.IdleAt t ↔ s.win.prevT.toNat + s.cfg.thrIdle.toNat < t.toNat := by
  unfold State.IdleAt
  constructor
  · rintro ⟨hle, hgap⟩
    rw [BitVec.lt_def, BitVec.toNat_sub_of_le hle] at hgap
    omega
  · intro h
    have hle : s.win.prevT ≤ t := by
      rw [BitVec.le_def]
      omega
    refine ⟨hle, ?_⟩
    rw [BitVec.lt_def, BitVec.toNat_sub_of_le hle]
    omega

/-- Settles O25: the two guards first, then the window and the place of the sample index against `prev_t` and
the idle limit. -/
theorem tickTakesItsPseudocode : Obligations.TickTakesItsPseudocode := by
  intro s t
  refine ⟨exec_event_stopped trivial, exec_entersFatal, exec_check_passes rfl, ?closed, ?early, ?idle, ?within⟩
  case closed =>
    intro hfatal hstarted hclosed
    rw [exec_tick_started hfatal hstarted, tickStarted_closed hclosed]
  case early =>
    rintro ⟨hfatal, hstarted, hopen⟩ ht
    rw [exec_tick_started hfatal hstarted, tickStarted_early hopen ht]
    rfl
  case idle =>
    exact fun hdec ht => exec_tick_closes hdec (idleAt_iff.2 ht)
  case within =>
    rintro ⟨hfatal, hstarted, hopen⟩ hprev ht
    rw [exec_tick_started hfatal hstarted, tickStarted_within hopen hprev fun hi => ht.not_gt (idleAt_iff.1 hi)]

end Sys2Proof.Machine
end

section
/-! PROOFS. Bit recovery gap by gap (41_bit_recovery.md R67 to R76, R79): the guards of an edge, the class of a
gap, what each class does with room in the buffer, and with the buffer full. -/

namespace Sys2Proof.Machine

/-! ### An edge of a started block -/

theorem exec_edge_started {s : State} (hfatal : s.status.fatal = false) (hstarted : s.status.started = true)
    (t : Sample) (l : Bool) : exec (.edge t l) s = .next (edgeStarted t l s) :=
  congrArg Host.Outcome.next (guarded_started hfatal hstarted)

theorem edgeStarted_sameLevel {s : State} {l : Bool} (hlevel : s.win.level = some l) (t : Sample) :
    edgeStarted t l s = s := by
  simp [edgeStarted, qualifying, hlevel]

theorem edgeStarted_opens {s : State} {l : Bool} (hlevel : s.win.level ≠ some l) (hclosed : s.win.isOpen = false)
    (t : Sample) : edgeStarted t l s = openWindow t l s := by
  simp [edgeStarted, qualifying, hlevel, hclosed]

theorem edgeStarted_early {s : State} {t : Sample} {l : Bool} (hlevel : s.win.level ≠ some l)
    (hopen : s.win.isOpen = true) (ht : t ≤ s.win.prevT) : edgeStarted t l s = setInputErr s := by
  simp [edgeStarted, qualifying, hlevel, hopen, ht]

/-- Settles O22: the fatal stop drops the edge too. -/
theorem sameLevelEdgeIsDropped : Obligations.SameLevelEdgeIsDropped := by
  intro s t l hstarted hlevel
  cases hfatal : s.status.fatal with
  | true => exact exec_event_stopped trivial hfatal
  | false => rw [exec_edge_started hfatal hstarted, edgeStarted_sameLevel hlevel]

/-- Settles O23: the edge runs `open_window`. -/
theorem firstEdgeOpensAWindow : Obligations.FirstEdgeOpensAWindow := by
  intro s t l hfatal hstarted hlevel hclosed
  rw [exec_edge_started hfatal hstarted, edgeStarted_opens hlevel hclosed]
  rfl

/-- Settles O24: EDGE and TICK both stop at the order of their sample index. -/
theorem inputOutOfOrderIsDropped : Obligations.InputOutOfOrderIsDropped := by
  rintro s t ⟨hfatal, hstarted, hopen⟩
  constructor
  · intro l hlevel ht
    rw [exec_edge_started hfatal hstarted, edgeStarted_early hlevel hopen ht]
    rfl
  · intro ht
    rw [exec_tick_started hfatal hstarted, tickStarted_early hopen ht]
    rfl

/-! ### The class of a gap -/

/-- Where a gap lies against the thresholds, tested in the order of 41_bit_recovery.md R70, and its class. -/
theorem gapClass_cases (c : CfgRegs) (g : Sample) :
    (c.thrIdle < g ∧ gapClass c g = .idle)
      ∨ (g ≤ c.thrIdle ∧ g < c.thrShortMin ∧ gapClass c g = .badLow)
      ∨ (g ≤ c.thrIdle ∧ c.thrShortMin ≤ g ∧ g ≤ c.thrSplit ∧ gapClass c g = .short)
      ∨ (g ≤ c.thrIdle ∧ c.thrShortMin ≤ g ∧ c.thrSplit < g ∧ g ≤ c.thrLongMax ∧ gapClass c g = .long)
      ∨ (g ≤ c.thrIdle ∧ c.thrShortMin ≤ g ∧ c.thrSplit < g ∧ c.thrLongMax < g ∧ gapClass c g = .badHigh) := by
  by_cases hidle : c.thrIdle < g
  · exact .inl ⟨hidle, gapClass_idle hidle⟩
  replace hidle := BitVec.not_lt.1 hidle
  by_cases hmin : g < c.thrShortMin
  · exact .inr (.inl ⟨hidle, hmin, gapClass_badLow hidle hmin⟩)
  replace hmin := BitVec.not_lt.1 hmin
  by_cases hsplit : c.thrSplit < g
  · by_cases hlong : c.thrLongMax < g
    · exact .inr (.inr (.inr (.inr ⟨hidle, hmin, hsplit, hlong, gapClass_badHigh hidle hmin hsplit hlong⟩)))
    · replace hlong := BitVec.not_lt.1 hlong
      exact .inr (.inr (.inr (.inl ⟨hidle, hmin, hsplit, hlong, gapClass_long hidle hmin hsplit hlong⟩)))
  · replace hsplit := BitVec.not_lt.1 hsplit
    exact .inr (.inr (.inl ⟨hidle, hmin, hsplit, gapClass_short hidle hmin hsplit⟩))

/-- Settles O26: the thresholds of a valid configuration are in order, so that each of the five places a gap
can have excludes the inequalities of the other four. -/
theorem gapsFallInOneClass : Obligations.GapsFallInOneClass := by
  intro c g hvalid
  obtain ⟨-, -, hsplit, hlong, hidle, -⟩ := (configurationIsValidExactlyWhen c).1 hvalid
  rcases gapClass_cases c g with ⟨h, hc⟩ | ⟨-, h, hc⟩ | ⟨-, hm, h, hc⟩ | ⟨-, -, hs, h, hc⟩ | ⟨hi, -, -, h, hc⟩
  all_goals
    simp only [hc, reduceCtorEq, true_iff, false_iff]
    bv_omega

/-! ### What each class does -/

theorem shortGap_first {s : State} (hhalf : s.win.halfPending = false) (t : Sample) :
    shortGap t s = setHalf s s.win.prevT :=
  if_neg (by simp [hhalf])

theorem shortGap_second {s : State} (hhalf : s.win.halfPending = true) (t : Sample) :
    shortGap t s = clearHalf (memAppend ⟨true, s.win.halfStart, t⟩ s) :=
  if_pos hhalf

theorem longGap_zero {s : State} (hhalf : s.win.halfPending = false) (t : Sample) :
    longGap t s = memAppend ⟨false, s.win.prevT, t⟩ s :=
  if_neg (by simp [hhalf])

theorem longGap_orphan {s : State} (hhalf : s.win.halfPending = true) (t : Sample) :
    longGap t s = clearHalf (memAppend ⟨false, s.win.prevT, t⟩ (addDemodErr s.win.halfStart t s)) :=
  if_pos hhalf

theorem gapOp_bad {t : Sample} {s : State}
    (h : gapClass s.cfg (t - s.win.prevT) = .badLow ∨ gapClass s.cfg (t - s.win.prevT) = .badHigh) :
    gapOp t s = badGap t s := by
  rcases h with h | h <;> simp only [gapOp, h]

theorem exec_edge_short {s : State} {t : Sample} {l : Bool} (h : s.TimedEdge t l)
    (hmin : s.cfg.thrShortMin ≤ t - s.win.prevT) (hsplit : t - s.win.prevT ≤ s.cfg.thrSplit) :
    exec (.edge t l) s = .next (advanceEdge t l (shortGap t s)) := by
  obtain ⟨-, -, -, hidle⟩ := id h
  rw [exec_edge_timed h, gapOp_short (gapClass_short hidle hmin hsplit)]

theorem exec_edge_long {s : State} {t : Sample} {l : Bool} (h : s.TimedEdge t l)
    (hmin : s.cfg.thrShortMin ≤ t - s.win.prevT) (hsplit : s.cfg.thrSplit < t - s.win.prevT)
    (hmax : t - s.win.prevT ≤ s.cfg.thrLongMax) :
    exec (.edge t l) s = .next (advanceEdge t l (longGap t s)) := by
  obtain ⟨-, -, -, hidle⟩ := id h
  rw [exec_edge_timed h, gapOp_long (gapClass_long hidle hmin hsplit hmax)]

/-- Settles O27: no bit is due, so the buffer does not matter. -/
theorem firstHalfOfAOne : Obligations.FirstHalfOfAOne := by
  intro s t l h hmin hsplit hhalf
  rw [exec_edge_short h hmin hsplit, shortGap_first hhalf]
  rfl

/-- Settles O28: the bit over both halves is written. -/
theorem secondHalfOfAOne : Obligations.SecondHalfOfAOne := by
  intro s t l h hmin hsplit hhalf hroom
  rw [exec_edge_short h hmin hsplit, shortGap_second hhalf, memAppend_room (bufferFull_eq_false.2 hroom)]
  rfl

/-- Settles O29: the "0" is written, after the error of an orphan half. -/
theorem longGapIsAZero : Obligations.LongGapIsAZero := by
  intro s t l h hmin hsplit hmax hroom
  have hfull : bufferFull s = false := bufferFull_eq_false.2 hroom
  rw [exec_edge_long h hmin hsplit hmax]
  constructor
  · intro hhalf
    rw [longGap_zero hhalf, memAppend_room hfull]
    rfl
  · intro hhalf
    rw [longGap_orphan hhalf, memAppend_room ((bufferFull_addDemodErr _ _ _).trans hfull)]
    rfl

/-- Settles O30: under a valid configuration both bands are the two BAD classes, which act alike. -/
theorem badGapIsABestEffortZero : Obligations.BadGapIsABestEffortZero := by
  intro s t l h hvalid hband hroom
  obtain ⟨-, -, -, hidle⟩ := id h
  obtain ⟨-, hlow, -, -, hhigh⟩ := gapsFallInOneClass s.cfg (t - s.win.prevT) hvalid
  have hclass := hband.imp hlow.2 fun hmax => hhigh.2 ⟨hmax, hidle⟩
  have hfull : bufferFull s = false := bufferFull_eq_false.2 hroom
  rw [exec_edge_timed h, gapOp_bad hclass, badGap, memAppend_room ((bufferFull_addDemodErr _ _ _).trans hfull)]
  rfl

/-! ### The buffer full -/

/-- The block with an unbounded bit buffer. -/
def unbounded (s : State) : State := { s with build := { s.build with bitCapacity := none } }

/-- What becomes of the state `u` that the unbounded block reaches from `s` when the buffer is full at `s`: a bit
that was appended is discarded, with its marks (41_bit_recovery.md R79). -/
def discardBit (s u : State) : State :=
  if u.win.bits = s.win.bits then { u with build := s.build }
  else { u with
    build := s.build
    win := { u.win with bits := s.win.bits }
    flags := { s.flags with ovf := true }
    status := { s.status with overflow := true } }

theorem discardBit_noBit {s u : State} (h : u.win.bits = s.win.bits) :
    discardBit s u = { u with build := s.build } :=
  if_pos h

theorem discardBit_advanceEdge (s u : State) (t : Sample) (l : Bool) :
    discardBit s (advanceEdge t l u) = advanceEdge t l (discardBit s u) := by
  unfold discardBit
  rw [apply_ite (advanceEdge t l)]
  rfl

theorem discardBit_clearHalf (s u : State) : discardBit s (clearHalf u) = clearHalf (discardBit s u) := by
  unfold discardBit
  rw [apply_ite clearHalf]
  rfl

section
variable {s : State} (hfull : bufferFull s = true)
include hfull

theorem discardBit_memAppend (b : BitRecord) : discardBit s (memAppend b (unbounded s)) = memAppend b s := by
  rw [memAppend_full hfull, memAppend_room (bufferFull_unbounded rfl), discardBit, if_neg (by simp [unbounded])]
  rfl

theorem shortGap_full (t : Sample) : shortGap t s = discardBit s (shortGap t (unbounded s)) := by
  cases hhalf : s.win.halfPending with
  | false =>
    rw [shortGap_first hhalf, shortGap_first (s := unbounded s) hhalf]
    exact (discardBit_noBit (s := s) (u := setHalf (unbounded s) s.win.prevT) rfl).symm
  | true =>
    rw [shortGap_second hhalf, shortGap_second (s := unbounded s) hhalf, discardBit_clearHalf]
    exact congrArg clearHalf (discardBit_memAppend hfull _).symm

theorem longGap_full (t : Sample) : longGap t s = discardBit s (longGap t (unbounded s)) := by
  cases hhalf : s.win.halfPending with
  | false =>
    rw [longGap_zero hhalf, longGap_zero (s := unbounded s) hhalf]
    exact (discardBit_memAppend hfull _).symm
  | true =>
    rw [longGap_orphan hhalf, longGap_orphan (s := unbounded s) hhalf, discardBit_clearHalf]
    exact congrArg clearHalf (discardBit_memAppend (s := addDemodErr s.win.halfStart t s) hfull _).symm

theorem badGap_full (t : Sample) : badGap t s = discardBit s (badGap t (unbounded s)) := by
  rw [badGap, badGap, discardBit_clearHalf]
  exact congrArg clearHalf (discardBit_memAppend (s := addDemodErr _ t s) hfull _).symm

/-- With the buffer full, every class of gap does what it does unbounded, less its bit. -/
theorem gapOp_full (t : Sample) : gapOp t s = discardBit s (gapOp t (unbounded s)) := by
  have hclass : gapClass (unbounded s).cfg (t - (unbounded s).win.prevT) = gapClass s.cfg (t - s.win.prevT) := rfl
  simp only [gapOp, hclass]
  cases gapClass s.cfg (t - s.win.prevT) with
  | idle => exact (discardBit_noBit rfl).symm
  | short => exact shortGap_full hfull t
  | long => exact longGap_full hfull t
  | badLow | badHigh => exact badGap_full hfull t

end

/-- An unbounded buffer discards no bit. -/
theorem gapOp_noOverflow {s : State} (h : s.build.bitCapacity = none) (t : Sample) :
    (gapOp t s).flags = s.flags ∧ (gapOp t s).status = s.status := by
  rcases (gapOp_recovery t s).overflowOnly with hkept | ⟨hfull, -⟩
  · exact hkept
  · simp [bufferFull_unbounded h] at hfull

/-- Settles O31: the edge is timed in the unbounded block as well, and moves `prev_t` and the level alike. -/
theorem fullBufferDiscardsTheBit : Obligations.FullBufferDiscardsTheBit := by
  intro s u t l h hu
  have hunbounded : exec (.edge t l) (unbounded s) = .next (advanceEdge t l (gapOp t (unbounded s))) :=
    exec_edge_timed h
  cases hu.symm.trans hunbounded
  obtain ⟨hflags, hstatus⟩ := gapOp_noOverflow (s := unbounded s) rfl t
  refine ⟨hflags, hstatus, fun c hcap hle => ?_⟩
  have hfull : bufferFull s = true := bufferFull_eq_true.2 ⟨c, hcap, hle⟩
  rw [exec_edge_timed h, gapOp_full hfull, ← discardBit_advanceEdge]
  rfl

end Sys2Proof.Machine
end

section
/-! PROOFS. The end of a window by an edge or a TICK beyond the idle limit (41_bit_recovery.md R71), and the half
it drops (R78): nothing in the close reads `half_pending`. -/

namespace Sys2Proof.Machine

/-! ### Close, then open -/

/-- An edge beyond the idle limit closes the window and opens the next (41_bit_recovery.md R71). -/
theorem exec_edge_closes {s : State} {t : Sample} {l : Bool} (h : ClosesWindow (.edge t l) s) :
    exec (.edge t l) s = .next (openWindow t l (closeWindow s)) := by
  obtain ⟨⟨hfatal, hstarted, hopen⟩, hlevel, hle, hgap⟩ := h
  have hlate : ¬ t ≤ s.win.prevT := fun ht => by
    have heq : t = s.win.prevT := BitVec.le_antisymm ht hle
    simp [heq] at hgap
  rw [exec_edge_started hfatal hstarted, ← edgeGap_idle hgap]
  simp [edgeStarted, qualifying, hlevel, hopen, hlate]

/-- Settles O41: the TICK leaves no window open and the level UNKNOWN, so the edge qualifies and opens one. -/
theorem idleEdgeIsTickThenEdge : Obligations.IdleEdgeIsTickThenEdge := by
  intro s t l h
  obtain ⟨hdec, -, hidle⟩ := id h
  obtain ⟨hfatal, hstarted, -⟩ := id hdec
  have htick := exec_tick_closes hdec hidle
  have hedge : exec (.edge t l) (forgetLevel (closeWindow s)) = .next (openWindow t l (closeWindow s)) := by
    rw [exec_edge_started (by simpa using hfatal) (by simpa using hstarted), edgeStarted_opens (by simp) (by simp)]
    rfl
  refine ⟨exec_edge_closes h, htick, ?_⟩
  rw [exec_edge_closes h, runInstrs_cons htick, runInstrs_cons hedge]
  rfl

/-! ### The work on a closed window with a half pending and without

Each operation commutes with `clearHalf`: it neither reads nor writes `half_pending`. -/

theorem emitSymbol_clearHalf (g : BitVec 4) (pos k : Nat) (s : State) :
    emitSymbol g pos k (clearHalf s) = clearHalf (emitSymbol g pos k s) := rfl

theorem noteBadSymbol_clearHalf (g : BitVec 4) (pos k : Nat) (s : State) :
    noteBadSymbol g pos k (clearHalf s) = clearHalf (noteBadSymbol g pos k s) := by
  unfold noteBadSymbol
  rw [apply_ite clearHalf]
  rfl

theorem noteNondata_clearHalf (g : BitVec 4) (k : Nat) (s : State) :
    noteNondata g k (clearHalf s) = clearHalf (noteNondata g k s) := by
  unfold noteNondata
  rw [apply_ite clearHalf]
  rfl

theorem groupSymbol_clearHalf (g : BitVec 4) (pos k : Nat) (s : State) :
    groupSymbol g pos k (clearHalf s) = clearHalf (groupSymbol g pos k s) := by
  simp only [groupSymbol, emitSymbol_clearHalf, noteBadSymbol_clearHalf, noteNondata_clearHalf]

theorem groupSymbols_clearHalf (g : BitVec 4) (n : Nat) : ∀ (j : Nat) (v : Word32) (s : State),
    groupSymbols g n j v (clearHalf s) = ((groupSymbols g n j v s).1, clearHalf (groupSymbols g n j v s).2) := by
  induction n with
  | zero => exact fun _ _ _ => rfl
  | succ n ih =>
    intro j v s
    rw [groupSymbols, clearHalf_par, groupSymbol_clearHalf, ih]
    rfl

theorem group_clearHalf (n : Nat) (g : BitVec 4) (s : State) :
    group n g (clearHalf s) = ((group n g s).1, clearHalf (group n g s).2) := by
  have hbits : nbits (clearHalf s) = nbits s := rfl
  unfold group
  rw [groupSymbols_clearHalf, hbits, clearHalf_par]
  split <;> rfl

theorem parseHeader_clearHalf (s : State) : parseHeader (clearHalf s) = clearHalf (parseHeader s) := by
  unfold parseHeader
  rw [group_clearHalf]
  rcases group 4 groupHeader s with ⟨_ | v, u⟩ <;> rfl

theorem parseWord_clearHalf (w : Nat) (s : State) : parseWord w (clearHalf s) = clearHalf (parseWord w s) := by
  unfold parseWord
  rw [group_clearHalf]
  rcases group 8 (groupWord w) s with ⟨_ | v, u⟩ <;> rfl

theorem parseWords_clearHalf (n : Nat) : ∀ (w : Nat) (s : State),
    parseWords n w (clearHalf s) = clearHalf (parseWords n w s) := by
  induction n with
  | zero => exact fun _ _ => rfl
  | succ n ih =>
    intro w s
    rw [parseWords, parseWords, parseWord_clearHalf, ih]

theorem parsePayload_clearHalf (s : State) : parsePayload (clearHalf s) = clearHalf (parsePayload s) :=
  congrArg (setPhase .crc) (parseWords_clearHalf s.par.count.toNat 0 (clearWords s))

theorem parseTrailerGroup_clearHalf (s : State) :
    parseTrailerGroup (clearHalf s) = clearHalf (parseTrailerGroup s) := by
  have hbegin : beginTrailer (clearHalf s) = clearHalf (beginTrailer s) := rfl
  unfold parseTrailerGroup
  rw [hbegin, group_clearHalf]
  rcases group 8 groupTrailer (beginTrailer s) with ⟨_ | v, u⟩ <;> rfl

theorem compareCrc_clearHalf (s : State) : compareCrc (clearHalf s) = clearHalf (compareCrc s) := by
  unfold compareCrc
  rw [apply_ite clearHalf]
  rfl

theorem parseTrailer_clearHalf (s : State) : parseTrailer (clearHalf s) = clearHalf (parseTrailer s) := by
  unfold parseTrailer
  rw [parseTrailerGroup_clearHalf]
  exact congrArg (setPhase .eop) (compareCrc_clearHalf (computeCrc (parseTrailerGroup s)))

theorem parseTerminator_clearHalf (s : State) :
    parseTerminator (clearHalf s) = clearHalf (parseTerminator s) := by
  unfold parseTerminator
  rw [apply_ite clearHalf, apply_ite clearHalf]
  rfl

theorem emitPreamble_clearHalf (s : State) : emitPreamble (clearHalf s) = clearHalf (emitPreamble s) := by
  unfold emitPreamble
  rw [apply_ite clearHalf]
  rfl

theorem emitSopSymbols_clearHalf (s : State) : emitSopSymbols (clearHalf s) = clearHalf (emitSopSymbols s) := by
  simp only [emitSopSymbols, emitSymbol_clearHalf, clearHalf_par]

theorem emitSop_clearHalf (s : State) : emitSop (clearHalf s) = clearHalf (emitSop s) := rfl

theorem enterParser_clearHalf (s : State) : enterParser (clearHalf s) = clearHalf (enterParser s) := rfl

theorem emitFrame_clearHalf (s : State) : emitFrame (clearHalf s) = clearHalf (emitFrame s) := rfl

theorem emitBitrate_clearHalf (s : State) : emitBitrate (clearHalf s) = clearHalf (emitBitrate s) := rfl

theorem frameOutput_clearHalf (s : State) : frameOutput (clearHalf s) = clearHalf (frameOutput s) := by
  simp only [frameOutput, emitPreamble_clearHalf, emitSopSymbols_clearHalf, emitSop_clearHalf,
    enterParser_clearHalf, parseHeader_clearHalf, parsePayload_clearHalf, parseTrailer_clearHalf,
    parseTerminator_clearHalf, emitFrame_clearHalf, emitBitrate_clearHalf]

theorem windowPath_clearHalf (s : State) : windowPath (clearHalf s) = clearHalf (windowPath s) := by
  have hscan : syncScan (clearHalf s) = syncScan s := syncScan_of_bits rfl rfl rfl
  cases hs : syncScan s with
  | none =>
    rw [windowPath_junk hs, windowPath_junk (hscan.trans hs)]
    rfl
  | some h =>
    by_cases hk : sopClass h.row.kind = .reset
    · rw [windowPath_reset hs hk, windowPath_reset (hscan.trans hs) hk]
      rfl
    · rw [windowPath_frame_path hs hk, windowPath_frame_path (hscan.trans hs) hk]
      exact frameOutput_clearHalf (acceptHit h s)

theorem closeWork_clearHalf (s : State) : closeWork (clearHalf s) = clearHalf (closeWork s) := by
  have hwarn : afterWarnings (clearHalf s) = clearHalf (afterWarnings s) := by
    rw [afterWarnings_eq, afterWarnings_eq]
    rfl
  rw [closeWork_eq, closeWork_eq, hwarn, windowPath_clearHalf]
  rfl

/-- A close drops the pending half with no trace (41_bit_recovery.md R78). -/
theorem closeWindow_clearHalf (s : State) : closeWindow (clearHalf s) = closeWindow s := by
  rw [closeWindow_eq, closeWork_clearHalf, closeWindow_eq]
  rfl

theorem exec_eos_running {s : State} (hfatal : s.status.fatal = false) :
    exec .eos s = .next (forgetLevel (clearWindow s)) :=
  congrArg Host.Outcome.next (unlessFatal_running hfatal _)

/-- Settles O32: an EDGE or a TICK closes the window and EOS clears it, with the half or without. -/
theorem pendingHalfIsDropped : Obligations.PendingHalfIsDropped := by
  intro s i h
  change exec i s = exec i (clearHalf s)
  rcases h with h | ⟨rfl, hfatal, -⟩
  · cases i with
    | edge t l =>
      rw [exec_edge_closes h, exec_edge_closes (s := clearHalf s) h, closeWindow_clearHalf]
    | tick t =>
      obtain ⟨hdec, hidle⟩ := h
      rw [exec_tick_closes hdec hidle, exec_tick_closes (s := clearHalf s) hdec hidle, closeWindow_clearHalf]
    | _ => exact h.2.elim
  · rw [exec_eos_running hfatal, exec_eos_running (s := clearHalf s) hfatal]
    rfl

end Sys2Proof.Machine
end

section
/-! PROOFS. The default CODE_TABLE (42_symbol_mapper.md R81) and the runs of zeros in data codes (R83 (c)): a run
across two codes is a tail of the first followed by a head of the second. -/

namespace Sys2Proof.Machine

/-! ### A run across two bit strings -/

/-- A run over the seam is a tail of the left string and a head of the right one, so at most `m + n` long. -/
theorem not_run_infix_append {α : Type} {a : α} {m n : Nat} {xs ys : List α}
    (hxs : ¬ List.replicate (m + n + 1) a <:+: xs) (hys : ¬ List.replicate (m + n + 1) a <:+: ys)
    (htail : ¬ List.replicate (m + 1) a <:+ xs) (hhead : ¬ List.replicate (n + 1) a <+: ys) :
    ¬ List.replicate (m + n + 1) a <:+: xs ++ ys := by
  intro hrun
  obtain hin | hin | ⟨l, r, heq, hl, hr⟩ := List.infix_append_iff.1 hrun
  · exact hxs hin
  · exact hys hin
  · obtain ⟨hlen, hleft, hright⟩ := List.append_eq_replicate_iff.1 heq.symm
    rw [hleft] at hl
    rw [hright] at hr
    by_cases hm : m < l.length
    · exact htail ((List.suffix_replicate_iff.2 ⟨by simpa using hm, by simp⟩).trans hl)
    · have hn : n < r.length := by omega
      exact hhead ((List.prefix_replicate_iff.2 ⟨by simpa using hn, by simp⟩).trans hr)

/-! ### The entries and their codes -/

/-- On data codes the choice of a code undoes the mapper (42_symbol_mapper.md R83 (b)). -/
theorem codeOfSym_codeSym_of_data {c : Code} (h : symIsData (codeSym defaultBuild c) = true) :
    codeOfSym defaultBuild (codeSym defaultBuild c) = c := by
  revert c
  decide

theorem codeSym_inj_of_data {c c' : Code} (hdata : symIsData (codeSym defaultBuild c) = true)
    (heq : codeSym defaultBuild c = codeSym defaultBuild c') : c = c' := by
  have hdata' : symIsData (codeSym defaultBuild c') = true := heq ▸ hdata
  rw [← codeOfSym_codeSym_of_data hdata, heq, codeOfSym_codeSym_of_data hdata']

/-! ### Runs of zeros in data codes (R83 (c)) -/

theorem codeBits_zeros_of_data {c : Code} (h : symIsData (codeSym defaultBuild c) = true) :
    ¬ [false, false, false] <:+: codeBits c ∧ ¬ [false, false] <:+ codeBits c := by
  revert c
  decide

theorem codeBits_codeOfSym_data_zeros (nib : BitVec 4) :
    ¬ [false, false, false] <:+: codeBits (codeOfSym defaultBuild (.data nib))
      ∧ ¬ [false, false] <:+ codeBits (codeOfSym defaultBuild (.data nib)) :=
  codeBits_zeros_of_data (by rw [codeSym_codeOfSym rfl]; rfl)

theorem symBits_cons (b : Build) (y : Sym) (ys : List Sym) :
    symBits b (y :: ys) = codeBits (codeOfSym b y) ++ symBits b ys :=
  List.flatMap_cons

/-- A sequence of data codes starts as its first code does: with at most two zeros. -/
theorem not_three_zeros_prefix_symBits_data (nibs : List (BitVec 4)) :
    ¬ [false, false, false] <+: symBits defaultBuild (nibs.map .data) := by
  cases nibs with
  | nil => decide
  | cons nib nibs =>
    rw [List.map_cons, symBits_cons]
    intro h
    have hcode := List.prefix_of_prefix_length_le h (List.prefix_append _ _) (by simp [length_codeBits])
    exact (codeBits_codeOfSym_data_zeros nib).1 hcode.isInfix

/-- One trailing zero and two leading zeros make the longest run: three. -/
theorem not_four_zeros_infix_symBits_data (nibs : List (BitVec 4)) :
    ¬ [false, false, false, false] <:+: symBits defaultBuild (nibs.map .data) := by
  induction nibs with
  | nil => decide
  | cons nib nibs ih =>
    obtain ⟨hthree, htail⟩ := codeBits_codeOfSym_data_zeros nib
    have hfour : ¬ [false, false, false, false] <:+: codeBits (codeOfSym defaultBuild (.data nib)) :=
      fun h => hthree ((List.infix_cons (List.infix_refl _)).trans h)
    rw [List.map_cons, symBits_cons]
    exact not_run_infix_append (m := 1) (n := 2) hfour ih htail (not_three_zeros_prefix_symBits_data nibs)

/-- Settles O34: the entries and the facts about one code from the table, a sequence by induction on its nibbles. -/
theorem codeTableIsTheStatedOne : Obligations.CodeTableIsTheStatedOne :=
  ⟨by decide, rfl, fun _ _ => codeSym_inj_of_data, fun nib => codeSym_codeOfSym rfl (.data nib),
    fun _ => codeBits_zeros_of_data, not_four_zeros_infix_symBits_data, by decide, rfl, rfl⟩

end Sys2Proof.Machine
end

section
/-! PROOFS. The frame synchronizer (43_frame_sync.md R84 to R87): the default table, the row CHOOSE takes, the
offset the scan takes. -/

namespace Sys2Proof.Machine

/-! ### The default SOP_TABLE -/

/-- Settles O36: the kinds, classes, patterns and distances, each read off the table. -/
theorem frameStartTableIsTheStatedOne : Obligations.FrameStartTableIsTheStatedOne :=
  ⟨rfl, by decide, by decide, by decide⟩

/-- Two rows that differ in at most one place are the same row (43_frame_sync.md R84). -/
theorem eq_of_rowDistance_le_one : ∀ r ∈ defaultSopTable, ∀ r' ∈ defaultSopTable, rowDistance r r' ≤ 1 → r = r' := by
  decide

/-- Each row stands at its own kind code (log entry 9). -/
theorem defaultSopTable_getElem?_kind : ∀ r ∈ defaultSopTable, defaultSopTable[r.kind.toNat]? = some r := by
  decide

/-! ### Matches of one candidate with two rows -/

/-- A candidate that matches a row exactly matches another wherever the two rows agree. -/
theorem rowMatches_of_exact {b : Build} {p : Candidate} {r r' : SopRow} (h : rowMatches b p r = 4) :
    rowMatches b p r' + rowDistance r r' = 4 := by
  have hsyms := rowMatches_eq_four h
  simp only [rowSyms, List.range, List.range.loop, List.map_cons, List.map_nil, List.cons.injEq, and_true] at hsyms
  obtain ⟨h0, h1, h2, h3⟩ := hsyms
  simp only [rowMatches, positionMatch, ← h0, ← h1, ← h2, ← h3, rowDistance, rowSyms, List.zip_cons_cons,
    List.zip_nil_left, List.countP_cons, List.countP_nil, decide_eq_true_eq, ne_eq, ite_not]
  split_ifs <;> rfl

/-- In the default table an exact match excludes a 3-of-4 match with another row (43_frame_sync.md R87). -/
theorem eq_of_exact_of_three_le {b : Build} {p : Candidate} {r r' : SopRow} (hr : r ∈ defaultSopTable)
    (hr' : r' ∈ defaultSopTable) (h : rowMatches b p r = 4) (h' : 3 ≤ rowMatches b p r') : r = r' := by
  have hsum := rowMatches_of_exact (r' := r') h
  exact eq_of_rowDistance_le_one r hr r' hr' (by omega)

/-! ### CHOOSE -/

/-- A search takes the entry that passes and has none that passes before it. -/
theorem find?_eq_getElem {α : Type} {f : α → Bool} {l : List α} {n : Nat} (hn : n < l.length) (h : f l[n] = true)
    (hbefore : ∀ m (hm : m < n), f (l[m]'(by omega)) = false) : l.find? f = some l[n] :=
  List.find?_eq_some_iff_getElem.2 ⟨h, n, hn, rfl, fun m hm => by rw [hbefore m hm]; rfl⟩

theorem choose_of_exact_row {b : Build} {p : Candidate} {row : SopRow}
    (h : b.sopTable.find? (fun r => decide (rowMatches b p r = 4)) = some row) (k : BitVec 3) :
    choose b k p = some row := by
  simp only [choose, h]

/-- Without an exact match CHOOSE is the search at the threshold. -/
theorem choose_of_no_exact {b : Build} {p : Candidate} (h : ∀ r ∈ b.sopTable, rowMatches b p r ≠ 4)
    (k : BitVec 3) : choose b k p = b.sopTable.find? fun r => decide (k.toNat ≤ rowMatches b p r) := by
  have hnone : b.sopTable.find? (fun r => decide (rowMatches b p r = 4)) = none :=
    List.find?_eq_none.2 fun r hr => by simpa using h r hr
  simp only [choose, hnone]

/-- CHOOSE accepts whenever a row reaches the threshold (43_frame_sync.md R87). -/
theorem choose_ne_none {b : Build} {k : BitVec 3} {p : Candidate} {r : SopRow} (hr : r ∈ b.sopTable)
    (h : k.toNat ≤ rowMatches b p r) : choose b k p ≠ none := by
  cases hexact : b.sopTable.find? fun r => decide (rowMatches b p r = 4) with
  | some row => simp [choose_of_exact_row hexact]
  | none =>
    intro hnone
    simp only [choose, hexact] at hnone
    exact absurd (decide_eq_true h) (List.find?_eq_none.1 hnone r hr)

/-- With the default table and a threshold of 3 or 4 the exact-first step changes nothing: the search at the
threshold finds the exact row too, as no other row reaches 3 (43_frame_sync.md R87). -/
theorem choose_eq_find?_threshold {b : Build} (hsop : b.sopTable = defaultSopTable) {k : BitVec 3}
    (hk : 3 ≤ k.toNat) (hk' : k.toNat ≤ 4) (p : Candidate) :
    choose b k p = b.sopTable.find? fun r => decide (k.toNat ≤ rowMatches b p r) := by
  by_cases hexact : ∀ r ∈ b.sopTable, rowMatches b p r ≠ 4
  · exact choose_of_no_exact hexact k
  · push Not at hexact
    obtain ⟨row, hrow, hfour⟩ := hexact
    have hreach : k.toNat ≤ rowMatches b p row := by omega
    rw [choose_of_exact hsop (hsop ▸ hrow) hfour]
    cases hfind : b.sopTable.find? fun r => decide (k.toNat ≤ rowMatches b p r) with
    | none => exact absurd (decide_eq_true hreach) (List.find?_eq_none.1 hfind row hrow)
    | some r =>
      have hr : k.toNat ≤ rowMatches b p r := of_decide_eq_true (List.find?_some hfind :)
      rw [eq_of_exact_of_three_le (hsop ▸ hrow) (hsop ▸ List.mem_of_find?_eq_some hfind) hfour (by omega)]

/-- Settles O38: the two searches of CHOOSE, and the rows' distances for the default table. -/
theorem chooseTakesExactThenLeastRow : Obligations.ChooseTakesExactThenLeastRow := by
  intro b k p
  refine ⟨?exact, ?threshold, ?none, ?default, ?accepted⟩
  case exact =>
    intro n hn hfour hbefore
    exact choose_of_exact_row (find?_eq_getElem hn (decide_eq_true hfour)
      fun m hm => decide_eq_false (hbefore m hm)) k
  case threshold =>
    intro n hn hexact hreach hbefore
    rw [choose_of_no_exact hexact]
    exact find?_eq_getElem hn (decide_eq_true hreach) fun m hm => decide_eq_false (hbefore m hm).not_ge
  case none =>
    intro h
    rw [choose_of_no_exact fun r hr => (h r hr).1]
    exact List.find?_eq_none.2 fun r hr => by simpa using (h r hr).2
  case default =>
    intro _ hsop hk hk'
    exact ⟨choose_eq_find?_threshold hsop hk hk' p,
      fun r hr r' hr' => eq_of_exact_of_three_le (hsop ▸ hr) (hsop ▸ hr')⟩
  case accepted =>
    rintro ⟨r, hr, h⟩
    exact choose_ne_none hr h

/-! ### The scan -/

/-- The scan takes the lowest accepted offset with 20 bits left (43_frame_sync.md R86). -/
theorem syncScan_eq_some_iff {s : State} {h : SyncHit} : syncScan s = some h ↔
    h.off + 20 ≤ nbits s ∧ chooseAt s h.off = some h.row ∧ ∀ j < h.off, chooseAt s j = none := by
  rw [syncScan, scanFrom_some]
  constructor
  · rintro ⟨-, hlt, hrow, hbefore⟩
    exact ⟨by omega, hrow, fun j hj => hbefore j (Nat.zero_le j) hj⟩
  · rintro ⟨hfits, hrow, hbefore⟩
    exact ⟨Nat.zero_le _, by omega, hrow, fun j _ hj => hbefore j hj⟩

theorem syncScan_eq_none_iff {s : State} : syncScan s = none ↔ ∀ i, i + 20 ≤ nbits s → chooseAt s i = none := by
  rw [syncScan, scanFrom_none]
  constructor
  · exact fun h i hi => h i (Nat.zero_le i) (by omega)
  · exact fun h i _ hi => h i (by omega)

/-- Four matches fit the 3-bit register. -/
theorem toNat_rowMatches (b : Build) (p : Candidate) (r : SopRow) :
    (BitVec.ofNat 3 (rowMatches b p r)).toNat = rowMatches b p r := by
  have := rowMatches_le b p r
  rw [BitVec.toNat_ofNat]
  exact Nat.mod_eq_of_lt (by omega)

/-- Settles O39: what the scan answers, and the three registers acceptance writes. -/
theorem lowestAcceptedOffsetWins : Obligations.LowestAcceptedOffsetWins := by
  intro s
  refine ⟨fun h => syncScan_eq_some_iff, syncScan_eq_none_iff, fun h hscan => ?_⟩
  obtain ⟨-, hchoose, -⟩ := syncScan_eq_some_iff.1 hscan
  obtain ⟨hrow, -⟩ := choose_some hchoose
  exact ⟨h.row.kind, _, rfl, toNat_rowMatches _ _ _,
    fun hsop => defaultSopTable_getElem?_kind h.row (hsop ▸ hrow)⟩

end Sys2Proof.Machine
end

section
/-! PROOFS. The close of a window on the frame path (46_window_output.md R110, R114): what the invariant says of the
closed window, the instruction that closes it, and a frame that arrives undamaged (R125 (b)). -/

namespace Sys2Proof.Machine

/-! ### The window a close finds -/

/-- The flags set only while a closed window is processed are clear before (10_state.md R30). -/
theorem State.Inv.flags_eq {s : State} (hi : s.Inv) (ho : s.win.isOpen = true) :
    s.flags = { FrameFlags.cleared with ovf := s.flags.ovf } := by
  obtain ⟨-, -, -, hopen, -, -⟩ := hi
  obtain ⟨-, -, -, -, -, -, -, htrunc, hbadsym, hcrc, hnoeop⟩ := hopen ho
  calc s.flags
      = ⟨s.flags.trunc, s.flags.badsym, s.flags.crc, s.flags.noeop, s.flags.ovf⟩ := rfl
    _ = { FrameFlags.cleared with ovf := s.flags.ovf } := by rw [htrunc, hbadsym, hcrc, hnoeop]; rfl

/-- A window that holds a bit has an edge span that is not empty (46_window_output.md R120). -/
theorem State.Inv.firstT_lt_prevT {s : State} (hi : s.Inv) (ho : s.win.isOpen = true) (hbits : 0 < nbits s) :
    s.win.firstT < s.win.prevT := by
  have hw := hi.ordered ho
  have hlen := Memory.length_le _ _ hw.bits
  have hend := BitVec.le_def.1 hw.bitsEnd
  rw [nbits] at hbits
  rw [BitVec.lt_def]
  omega

/-! ### The instruction that closes -/

/-- An EDGE or a TICK beyond the idle limit leaves the records of the close (46_window_output.md R110). -/
theorem ClosesWindow.exec_out {s : State} {i : Instr} (h : ClosesWindow i s) :
    ∃ t, exec i s = .next t ∧ t.out = (closeWindow s).out := by
  cases i with
  | edge t l => exact ⟨_, exec_edge_closes h, openWindow_out _ _ _⟩
  | tick t =>
    obtain ⟨hdec, hidle⟩ := h
    exact ⟨_, exec_tick_closes hdec hidle, forgetLevel_out _⟩
  | _ => exact h.2.elim

/-! ### An accepted frame start -/

theorem AcceptedStart.chooseAt_eq {s : State} {pre start rest : List Bool} {row : SopRow}
    (h : AcceptedStart s pre start row) (hcode : s.build.codeTable = defaultCodeTable)
    (hsop : s.build.sopTable = defaultSopTable)
    (hbits : s.win.bits.map BitRecord.value = pre ++ (start ++ rest)) : chooseAt s pre.length = some row := by
  obtain ⟨hrow, -, -, -, rfl | hchoose⟩ := h
  · refine choose_of_exact hsop hrow ?_ _
    rw [rowMatches_candidateAt, startMatches_of_sent hcode (sentAt_of_values _ hbits)]
  · exact hchoose

/-- The scan stops at an accepted frame start with no earlier offset accepted (43_frame_sync.md R86). -/
theorem AcceptedStart.syncScan_eq {s : State} {pre start rest : List Bool} {row : SopRow}
    (h : AcceptedStart s pre start row) (hcode : s.build.codeTable = defaultCodeTable)
    (hsop : s.build.sopTable = defaultSopTable)
    (hbits : s.win.bits.map BitRecord.value = pre ++ (start ++ rest)) :
    syncScan s = some ⟨pre.length, row⟩ := by
  have hchoose := h.chooseAt_eq hcode hsop hbits
  obtain ⟨-, -, hlen, hbefore, -⟩ := h
  have hfits := congrArg List.length hbits
  simp only [List.length_map, List.length_append, hlen] at hfits
  exact syncScan_eq_some_iff.2 ⟨by simp only [nbits]; omega, hchoose, hbefore⟩

/-! ### A frame that arrives undamaged -/

/-- Settles O54: the scan stops at the frame start, and the groups after it stand as sent. -/
theorem undamagedFrameIsRecovered : Obligations.UndamagedFrameIsRecovered := by
  intro s i row h words crc pre start post hi hcloses htables hstart hcount hcrc hbits
  obtain ⟨hcode, hsop, -⟩ := htables
  obtain ⟨⟨-, -, hopen⟩, -⟩ := id hcloses
  obtain ⟨-, hclass, hlen, -, -⟩ := id hstart
  obtain ⟨t, hexec, hout⟩ := hcloses.exec_out
  have hvalues : s.win.bits.map BitRecord.value =
      pre ++ (start ++ (symBits s.build (bodySyms h words crc) ++ post)) := by
    rw [hbits, List.append_assoc, List.append_assoc]
  have hbody : SentAt s (pre.length + 20) (bodySyms h words crc) := by
    have := sentAt_of_values (pre := pre ++ start) _ (hvalues.trans (List.append_assoc _ _ _).symm)
    rwa [List.length_append, hlen] at this
  have hsome : 0 < nbits s := Nat.lt_of_lt_of_le (by omega) hbody.le
  refine ⟨⟨t, hexec, ?_⟩, ?_⟩
  · rw [hout, closeWindow_out_sent hcode (hstart.syncScan_eq hcode hsop hvalues) hclass hcount hcrc
      (hi.flags_eq hopen) (hi.firstT_lt_prevT hopen hsome) hbody]
  · rintro rfl
    exact startMatches_of_sent hcode (sentAt_of_values _ hvalues)

end Sys2Proof.Machine
end

section
/-! PROOFS. The frame parser where the bits run out (44_frame_parser.md R95, R98 to R100, 45_checksum.md R106): a
group cut off leaves its sentinel, and the work goes on. With it a frame whose header is cut off. -/

namespace Sys2Proof.Machine

/-! ### A parser's step as an equation, with the flags it sets -/

/-- `s` with the phase, the parser registers, the frame flags and the output moved on, as any part of the parser
leaves it. -/
def State.flagged (s : State) (p : Phase) (q : ParserRegs) (f : FrameFlags) (rs : List Record) : State :=
  { s with phase := p, par := q, flags := f, out := s.out ++ rs }

theorem parsed_eq_flagged (s : State) (p : Phase) (q : ParserRegs) (rs : List Record) :
    s.parsed p q rs = s.flagged p q s.flags rs := rfl

section
variable (s : State) (p : Phase) (q : ParserRegs) (f : FrameFlags) (rs : List Record)

@[simp] theorem flagged_flagged (p' : Phase) (q' : ParserRegs) (f' : FrameFlags) (rs' : List Record) :
    (s.flagged p q f rs).flagged p' q' f' rs' = s.flagged p' q' f' (rs ++ rs') := by
  simp [State.flagged]

@[simp] theorem flagged_build : (s.flagged p q f rs).build = s.build := rfl
@[simp] theorem flagged_win : (s.flagged p q f rs).win = s.win := rfl
@[simp] theorem flagged_phase : (s.flagged p q f rs).phase = p := rfl
@[simp] theorem flagged_par : (s.flagged p q f rs).par = q := rfl
@[simp] theorem flagged_flags : (s.flagged p q f rs).flags = f := rfl
@[simp] theorem flagged_out : (s.flagged p q f rs).out = s.out ++ rs := rfl
@[simp] theorem nbits_flagged : nbits (s.flagged p q f rs) = nbits s := rfl
@[simp] theorem setPhase_flagged (p' : Phase) :
    setPhase p' (s.flagged p q f rs) = s.flagged p' q f rs := rfl
@[simp] theorem truncatedRecords_flagged : truncatedRecords (s.flagged p q f rs) = truncatedRecords s := rfl

end

/-! ### A group cut off -/

theorem group_truncated {n : Nat} {s : State} (h : nbits s - s.par.idx < 5 * n) (g : BitVec 4) :
    group n g s = (none, s) :=
  if_pos h

/-- A group cut off: `f_trunc`, its sentinel record and TruncatedFrame over the bits left
(44_frame_parser.md R95). -/
theorem truncatedGroup_eq (g : BitVec 4) (body : Body) (s : State) : truncatedGroup g body s =
    s.flagged s.phase s.par { s.flags with trunc := true } (truncatedRecords s g s.par.idx body) := by
  unfold truncatedGroup
  rw [range_eq_bitSpan (Nat.le_refl _)]
  simp [raise, emit, setTrunc, State.flagged, truncatedRecords, recordOver, diagnosticKind]

theorem headerBody_truncated (h : Header16) : headerBody h true = { sentHeader h with truncated := true } := by
  rw [← headerBody_eq_sentHeader]
  rfl

/-- A header cut off reads as SENTINEL16 (44_frame_parser.md R95, R96). -/
theorem parseHeader_truncated {s : State} (h : nbits s - s.par.idx < 20) : parseHeader s =
    s.flagged .payload { s.par with hdr := s.build.sentinel16, count := hdrCount s.build.sentinel16 }
      { s.flags with trunc := true }
      (truncatedRecords s 1 s.par.idx (.header { sentHeader s.build.sentinel16 with truncated := true })) := by
  unfold parseHeader
  rw [group_truncated h]
  dsimp only
  rw [truncatedGroup_eq, headerBody_truncated]
  rfl

/-- A data word cut off reads as SENTINEL32 (44_frame_parser.md R95, R98). -/
theorem parseWord_truncated {s : State} (h : nbits s - s.par.idx < 40) (w : Nat) : parseWord w s =
    s.flagged s.phase { s.par with words := s.par.words ++ [s.build.sentinel32] } { s.flags with trunc := true }
      (truncatedRecords s (BitVec.ofNat 4 (2 + w)) s.par.idx (.word (BitVec.ofNat 3 w) s.build.sentinel32 true)) := by
  unfold parseWord
  rw [group_truncated h]
  dsimp only
  rw [truncatedGroup_eq]
  rfl

/-- The records of `n` data words from word `w` on, all cut off at bit index `q`. -/
def truncatedWords (s : State) (q w n : Nat) : List Record :=
  (List.range' w n).flatMap fun i =>
    truncatedRecords s (BitVec.ofNat 4 (2 + i)) q (.word (BitVec.ofNat 3 i) s.build.sentinel32 true)

theorem truncatedWords_succ (s : State) (q w n : Nat) : truncatedWords s q w (n + 1) =
    truncatedRecords s (BitVec.ofNat 4 (2 + w)) q (.word (BitVec.ofNat 3 w) s.build.sentinel32 true)
      ++ truncatedWords s q (w + 1) n := by
  rw [truncatedWords, List.range'_succ, List.flatMap_cons, truncatedWords]

theorem truncatedWordsAndTrailer_eq (s : State) (q m n : Nat) : truncatedWordsAndTrailer s q m n =
    truncatedWords s q m (n - m) ++ truncatedRecords s 9 q (.crc s.build.sentinel32 true) := rfl

@[simp] theorem truncatedWords_flagged (s : State) (p : Phase) (q : ParserRegs) (f : FrameFlags)
    (rs : List Record) : truncatedWords (s.flagged p q f rs) = truncatedWords s := rfl

/-- Once the bits have run out every word is a sentinel at the same bit index (44_frame_parser.md R95). -/
theorem parseWords_truncated (n : Nat) : ∀ {s : State} (w : Nat), nbits s - s.par.idx < 40 →
    parseWords n w s = s.flagged s.phase
      { s.par with words := s.par.words ++ List.replicate n s.build.sentinel32 }
      { s.flags with trunc := s.flags.trunc || decide (0 < n) } (truncatedWords s s.par.idx w n) := by
  induction n with
  | zero =>
    intro s w _
    simp [parseWords, State.flagged, truncatedWords]
  | succ n ih =>
    intro s w h
    rw [parseWords, parseWord_truncated h, ih (w + 1) (by exact h), truncatedWords_succ]
    simp [List.replicate_succ]

theorem parsePayload_truncated {s : State} (h : nbits s - s.par.idx < 40) : parsePayload s =
    s.flagged .crc { s.par with words := List.replicate s.par.count.toNat s.build.sentinel32 }
      { s.flags with trunc := s.flags.trunc || decide (0 < s.par.count.toNat) }
      (truncatedWords s s.par.idx 0 s.par.count.toNat) := by
  rw [parsePayload, parseWords_truncated _ _ (by exact h)]
  rfl

/-! ### The trailer cut off -/

theorem parseTrailerGroup_truncated {s : State} (h : nbits s - s.par.idx < 40) : parseTrailerGroup s =
    s.flagged s.phase
      { s.par with crcStart := s.par.idx, crcNondata := false, crcRx := s.build.sentinel32 }
      { s.flags with trunc := true } (truncatedRecords s 9 s.par.idx (.crc s.build.sentinel32 true)) := by
  unfold parseTrailerGroup
  rw [group_truncated (by exact h)]
  dsimp only
  rw [truncatedGroup_eq]
  rfl

/-- The sentinel in place of a trailer cut off is compared as any other value (45_checksum.md R105, R106). -/
theorem compareCrc_sentinel {s : State} (hrx : s.par.crcRx = s.build.sentinel32) (hdata : s.par.crcNondata = false)
    (hcut : nbits s < s.par.crcStart + 40) : compareCrc s =
      s.flagged s.phase s.par
        { s.flags with crc := s.flags.crc || decide (s.par.crcCalc ≠ s.build.sentinel32) }
        (sentinelMismatch s s.par.crcStart s.par.crcCalc) := by
  rw [compareCrc, hrx, hdata, sentinelMismatch, Nat.min_eq_right (Nat.le_of_lt hcut),
    range_eq_bitSpan (Nat.le_refl _)]
  by_cases heq : s.par.crcCalc = s.build.sentinel32
  · simp [heq, State.flagged]
  · simp [heq, Ne.symm heq, raise, emit, setCrcFlag, State.flagged, recordOver, diagnosticKind, groupTrailer]

theorem parseTrailer_truncated {s : State} {computed : Word32}
    (hcomputed : computed = crc32 s.build.crcAlgo (ser s.par.hdr s.par.words))
    (h : nbits s < s.par.idx + 40) : parseTrailer s =
      s.flagged .eop
        { s.par with
          crcStart := s.par.idx, crcNondata := false, crcRx := s.build.sentinel32, crcCalc := computed }
        { s.flags with trunc := true, crc := s.flags.crc || decide (computed ≠ s.build.sentinel32) }
        (truncatedRecords s 9 s.par.idx (.crc s.build.sentinel32 true)
          ++ sentinelMismatch s s.par.idx computed) := by
  have hcompute : checkCrc (parseTrailerGroup s) = compareCrc (s.flagged s.phase
      { s.par with
        crcStart := s.par.idx, crcNondata := false, crcRx := s.build.sentinel32, crcCalc := computed }
      { s.flags with trunc := true } (truncatedRecords s 9 s.par.idx (.crc s.build.sentinel32 true))) := by
    rw [checkCrc, parseTrailerGroup_truncated (by omega), hcomputed]
    rfl
  rw [parseTrailer, hcompute, compareCrc_sentinel rfl rfl (by exact h), flagged_flagged]
  rfl

/-! ### The terminator -/

theorem hasTerminator_iff {s : State} {q : Nat} :
    hasTerminator s q = true ↔ q + 5 ≤ nbits s ∧ symAt s q = .eop := by
  rw [hasTerminator, Bool.and_eq_true, decide_eq_true_iff, decide_eq_true_iff]

theorem hasTerminator_eq_false_iff {s : State} {q : Nat} :
    hasTerminator s q = false ↔ (q + 5 ≤ nbits s → symAt s q ≠ .eop) := by
  rw [← Bool.not_eq_true, hasTerminator_iff, not_and]

/-- The terminator check, whatever stands there (44_frame_parser.md R100). -/
theorem parseTerminator_eq (s : State) : parseTerminator s =
    s.flagged s.phase
      { s.par with idx := if hasTerminator s s.par.idx then s.par.idx + 5 else s.par.idx }
      { s.flags with noeop := s.flags.noeop || !hasTerminator s s.par.idx }
      (terminatorRecords s s.par.idx) := by
  unfold parseTerminator
  dsimp only
  by_cases hfits : s.par.idx + 5 ≤ nbits s
  · have hemit : emitSymbol groupTerminator 0 s.par.idx s =
        s.parsed s.phase s.par [receivedSymbol s 10 s.par.idx 0] :=
      emitSymbol_received (j := 0) hfits groupTerminator
    have hsym : symAt (s.parsed s.phase s.par [receivedSymbol s 10 s.par.idx 0]) s.par.idx = symAt s s.par.idx :=
      symAt_congr rfl rfl _
    rw [if_pos (by omega), hemit, hsym, range_eq_bitSpan hfits, terminatorRecords, if_pos hfits]
    by_cases heop : symAt s s.par.idx = .eop
    · have hterm : hasTerminator s s.par.idx = true := hasTerminator_iff.2 ⟨hfits, heop⟩
      simp [heop, hterm, State.parsed, State.flagged, emit, setIdx, recordOver]
    · have hterm : hasTerminator s s.par.idx = false := hasTerminator_eq_false_iff.2 fun _ => heop
      simp [heop, hterm, missingTerminator, raise, emit, setNoeop, State.parsed, State.flagged, recordOver,
        diagnosticKind, groupTerminator]
  · have hterm : hasTerminator s s.par.idx = false := hasTerminator_eq_false_iff.2 fun h => absurd h hfits
    rw [if_neg (by omega), range_eq_bitSpan (Nat.le_refl _), terminatorRecords, if_neg hfits]
    simp [hterm, missingTerminator, raise, emit, setNoeop, State.flagged, recordOver, diagnosticKind,
      groupTerminator]

/-- After a trailer cut off the terminator is looked for at the same bit index (44_frame_parser.md R95, R100). -/
theorem parseTerminator_parseTrailer_truncated {s : State} {computed : Word32}
    (hcomputed : computed = crc32 s.build.crcAlgo (ser s.par.hdr s.par.words))
    (h : nbits s < s.par.idx + 40) : parseTerminator (parseTrailer s) =
      s.flagged .eop
        { s.par with
          idx := if hasTerminator s s.par.idx then s.par.idx + 5 else s.par.idx
          crcStart := s.par.idx, crcNondata := false, crcRx := s.build.sentinel32, crcCalc := computed }
        { s.flags with
          trunc := true
          crc := s.flags.crc || decide (computed ≠ s.build.sentinel32)
          noeop := s.flags.noeop || !hasTerminator s s.par.idx }
        (truncatedRecords s 9 s.par.idx (.crc s.build.sentinel32 true)
          ++ sentinelMismatch s s.par.idx computed ++ terminatorRecords s s.par.idx) := by
  rw [parseTrailer_truncated hcomputed h, parseTerminator_eq, flagged_flagged]
  rfl

/-! ### A frame whose header is cut off -/

/-- The parser registers after a header cut off: nothing but a terminator is consumed after the frame start. -/
def cutHeaderRegs (s : State) : ParserRegs :=
  { s.par with
    idx := if hasTerminator s (s.par.sopOff + 20) then s.par.sopOff + 20 + 5 else s.par.sopOff + 20
    hdr := s.build.sentinel16
    count := hdrCount s.build.sentinel16
    words := List.replicate (sentCount s.build.sentinel16) s.build.sentinel32
    crcStart := s.par.sopOff + 20
    crcRx := s.build.sentinel32
    crcNondata := false
    crcCalc := crc32 s.build.crcAlgo
      (ser s.build.sentinel16 (List.replicate (sentCount s.build.sentinel16) s.build.sentinel32)) }

/-- The frame flags after a header cut off. -/
def cutHeaderFlags (s : State) : FrameFlags :=
  { s.flags with
    trunc := true
    crc := s.flags.crc || decide ((cutHeaderRegs s).crcCalc ≠ s.build.sentinel32)
    noeop := s.flags.noeop || !hasTerminator s (s.par.sopOff + 20) }

/-- The frame parser on a header cut off: every later group is cut off at the same bit index. -/
theorem afterTerminator_cutHeader {s : State} {row : SopRow} (hfits : s.par.sopOff + 20 ≤ nbits s)
    (hcut : nbits s < s.par.sopOff + 40) (hkind : s.par.sopKind = row.kind)
    (hmatches : s.par.sopMatches = BitVec.ofNat 3 (startMatches s s.par.sopOff row)) :
    afterTerminator s = s.flagged .eop (cutHeaderRegs s) (cutHeaderFlags s)
      (startRecords s s.par.sopOff row
        ++ truncatedRecords s 1 (s.par.sopOff + 20)
          (.header { sentHeader s.build.sentinel16 with truncated := true })
        ++ truncatedWordsAndTrailer s (s.par.sopOff + 20) 0 (sentCount s.build.sentinel16)
        ++ sentinelMismatch s (s.par.sopOff + 20) (cutHeaderRegs s).crcCalc
        ++ terminatorRecords s (s.par.sopOff + 20)) := by
  have hheaderCut : nbits s - (s.par.sopOff + 20) < 20 := by omega
  have hwordCut : nbits s - (s.par.sopOff + 20) < 40 := by omega
  have htrailerCut : nbits s < s.par.sopOff + 20 + 40 := by omega
  have hheader : parseHeader (afterSop s) = s.flagged .payload
      { s.par with
        idx := s.par.sopOff + 20, hdr := s.build.sentinel16, count := hdrCount s.build.sentinel16 }
      { s.flags with trunc := true }
      (startRecords s s.par.sopOff row ++ truncatedRecords s 1 (s.par.sopOff + 20)
        (.header { sentHeader s.build.sentinel16 with truncated := true })) := by
    rw [afterSop_eq hfits hkind hmatches, parsed_eq_flagged, parseHeader_truncated (by exact hheaderCut),
      flagged_flagged]
    rfl
  have hpayload : parsePayload (parseHeader (afterSop s)) = s.flagged .crc
      { s.par with
        idx := s.par.sopOff + 20, hdr := s.build.sentinel16, count := hdrCount s.build.sentinel16
        words := List.replicate (sentCount s.build.sentinel16) s.build.sentinel32 }
      { s.flags with trunc := true }
      (startRecords s s.par.sopOff row ++ truncatedRecords s 1 (s.par.sopOff + 20)
        (.header { sentHeader s.build.sentinel16 with truncated := true })
        ++ truncatedWords s (s.par.sopOff + 20) 0 (sentCount s.build.sentinel16)) := by
    rw [hheader, parsePayload_truncated (by exact hwordCut), flagged_flagged]
    simp only [flagged_par, flagged_flags, flagged_build, toNat_hdrCount, Bool.true_or, truncatedWords_flagged]
  rw [afterTerminator, hpayload, parseTerminator_parseTrailer_truncated (computed := (cutHeaderRegs s).crcCalc) rfl
    (by exact htrailerCut), flagged_flagged, truncatedWordsAndTrailer_eq, Nat.sub_zero]
  simp only [List.append_assoc]
  rfl

/-- What a header cut off leaves to report: the sentinels, `f_trunc`, and a frame that is not valid
(46_window_output.md R118, R119). -/
theorem frameBody_cutHeader {s : State} {row : SopRow} (hkind : s.par.sopKind = row.kind)
    (hmatches : s.par.sopMatches = BitVec.ofNat 3 (startMatches s s.par.sopOff row))
    (hflags : s.flags = { FrameFlags.cleared with ovf := s.flags.ovf }) (p : Phase) (rs : List Record) :
    frameBody (s.flagged p (cutHeaderRegs s) (cutHeaderFlags s) rs) =
      cutFrameBody s s.par.sopOff row s.build.sentinel16
        (List.replicate (sentCount s.build.sentinel16) s.build.sentinel32)
        (!hasTerminator s (s.par.sopOff + 20)) := by
  have hhdrCount : hdrCount s.build.sentinel16 = BitVec.ofNat 3 (sentCount s.build.sentinel16) := by
    rw [← toNat_hdrCount, BitVec.ofNat_toNat, BitVec.setWidth_eq]
  have hwords := paddedWords_eq (h := s.build.sentinel16)
    (words := List.replicate (sentCount s.build.sentinel16) s.build.sentinel32) List.length_replicate
  have hbadsym : s.flags.badsym = false := by rw [hflags]; rfl
  have hcrc : s.flags.crc = false := by rw [hflags]; rfl
  have hnoeop : s.flags.noeop = false := by rw [hflags]; rfl
  simp only [frameBody, cutHeaderRegs, flagged_par, hwords]
  simp [cutHeaderRegs, cutHeaderFlags, frameValid, cutFrameBody, cleanFrameBody, hhdrCount, hkind, hmatches, hbadsym,
    hcrc, hnoeop]

/-- The frame path on a window that ends in the header (44_frame_parser.md R95, 46_window_output.md R114). -/
theorem frameOutput_cutHeader {s : State} {row : SopRow} (hfits : s.par.sopOff + 20 ≤ nbits s)
    (hcut : nbits s < s.par.sopOff + 40) (hkind : s.par.sopKind = row.kind)
    (hmatches : s.par.sopMatches = BitVec.ofNat 3 (startMatches s s.par.sopOff row))
    (hflags : s.flags = { FrameFlags.cleared with ovf := s.flags.ovf }) (hspan : s.win.firstT < s.win.prevT) :
    (frameOutput s).out = s.out ++ cutHeaderRecords s s.par.sopOff row := by
  have hbounds : s.par.sopOff < (cutHeaderRegs s).idx ∧ (cutHeaderRegs s).idx ≤ nbits s := by
    simp only [cutHeaderRegs]
    split
    · next hterm =>
      obtain ⟨hle, -⟩ := hasTerminator_iff.1 hterm
      omega
    · omega
  obtain ⟨hlt, hle⟩ := hbounds
  rw [frameOutput_eq, afterTerminator_cutHeader hfits hcut hkind hmatches,
    emitFrame_emitBitrate (by exact hlt) (by exact hle) (by exact hspan)
      (by exact frameBody_cutHeader hkind hmatches hflags _ _),
    flagged_out, cutHeaderRecords, List.append_assoc]
  rfl

/-! ### The close -/

/-- The state the frame path starts from, the frame start of `row` found at bit index `k`. -/
def acceptedState (s : State) (k : Nat) (row : SopRow) : State :=
  s.parsed .synchronizing
    { s.par with sopOff := k, sopKind := row.kind, sopMatches := BitVec.ofNat 3 (startMatches s k row) }
    (windowWarnings s)

theorem acceptHit_afterWarnings (s : State) (k : Nat) (row : SopRow) :
    acceptHit ⟨k, row⟩ (afterWarnings s) = acceptedState s k row := by
  rw [afterWarnings_eq, acceptedState, ← rowMatches_candidateAt]
  rfl

/-- A close on the frame path: the warnings, the records of the frame path, RAWBITS
(46_window_output.md R110). -/
theorem closeWindow_out_framePath {s : State} {k : Nat} {row : SopRow} {rs : List Record}
    (hscan : syncScan s = some ⟨k, row⟩) (hclass : sopClass row.kind ≠ .reset)
    (hpath : (frameOutput (acceptedState s k row)).out = (acceptedState s k row).out ++ rs) :
    (closeWindow s).out = s.out ++ windowWarnings s ++ rs ++ rawRecords s := by
  rw [closeWindow_out, closeWork_eq, windowPath_frame_path ((syncScan_afterWarnings s).trans hscan) hclass,
    acceptHit_afterWarnings, hpath]
  rfl

/-- The default header sentinel declares no words (44_frame_parser.md R95, 45_checksum.md R107 (b)). -/
theorem sentinelChecksum :
    sentCount 0x0BAD = 0 ∧ crc32 defaultCrc (ser 0x0BAD []) = 0xCDA209D3 := by
  decide +kernel

/-- Settles O53: the scan's hit has its 20 bits in the buffer, fewer than 20 follow it, and every group after it is
cut off there. -/
theorem truncatedHeaderIsStillReported : Obligations.TruncatedHeaderIsStillReported := by
  intro s i k row hi hcloses _ hscan hclass hcut
  obtain ⟨⟨-, -, hopen⟩, -⟩ := id hcloses
  obtain ⟨t, hexec, hout⟩ := hcloses.exec_out
  have hfits : k + 20 ≤ nbits s := syncScan_fits hscan
  refine ⟨t, hexec, ?_, ?_⟩
  · rw [hout]
    exact closeWindow_out_framePath hscan hclass (frameOutput_cutHeader (s := acceptedState s k row) hfits hcut rfl rfl
      (hi.flags_eq hopen) (hi.firstT_lt_prevT hopen (by omega)))
  · intro h16 _ hcrc
    rw [h16, hcrc]
    exact sentinelChecksum

end Sys2Proof.Machine
end

section
/-! PROOFS. The frame parser group by group, whatever stands in the buffer (44_frame_parser.md R94, R100): a group's
symbols, its value, and the terminator. -/

namespace Sys2Proof.Machine

/-! ### What the parser's work leaves to read -/

section
variable (s : State) (p : Phase) (q : ParserRegs) (f : FrameFlags) (rs : List Record)

@[simp] theorem symAt_flagged : symAt (s.flagged p q f rs) = symAt s := rfl
@[simp] theorem symbolRecords_flagged : symbolRecords (s.flagged p q f rs) = symbolRecords s := rfl

end

/-! ### The terminator -/

/-- Settles O50: the terminator check as an equation, with and without five bits left. -/
theorem terminatorIsChecked : Obligations.TerminatorIsChecked := by
  intro s
  refine ⟨fun hfits heop => ?_, fun hfits hne => ?_, fun hcut => ?_⟩
  · have hterm : hasTerminator s s.par.idx = true := hasTerminator_iff.2 ⟨hfits, heop⟩
    rw [parseTerminator_eq, hterm, Bool.not_true, Bool.or_false, terminatorRecords, if_pos hfits, if_pos heop]
    rfl
  · have hterm : hasTerminator s s.par.idx = false := hasTerminator_eq_false_iff.2 fun _ => hne
    rw [parseTerminator_eq, hterm, Bool.not_false, Bool.or_true, terminatorRecords, if_pos hfits, if_neg hne]
    rfl
  · have hterm : hasTerminator s s.par.idx = false := hasTerminator_eq_false_iff.2 fun hfits =>
      absurd hfits (Nat.not_le_of_lt hcut)
    rw [parseTerminator_eq, hterm, Bool.not_false, Bool.or_true, terminatorRecords,
      if_neg (Nat.not_le_of_lt hcut)]
    rfl

/-! ### The value of a group -/

/-- The value of a group whose symbols are `y`, after its first `n` (44_frame_parser.md R94). -/
def groupValue (y : Nat → Sym) : Nat → Word32
  | 0 => 0
  | n + 1 => groupValue y n ||| groupTerm (y n) n

/-- Bit `i` of a group's value is bit `i mod 4` of the nibble of symbol `i div 4` (20_memory.md R37). -/
theorem getLsbD_groupValue (y : Nat → Sym) {i : Nat} (hi : i < 32) (n : Nat) :
    (groupValue y n).getLsbD i = (decide (i < 4 * n) && (symNibble (y (i / 4))).getLsbD (i % 4)) := by
  induction n with
  | zero => simp [groupValue]
  | succ n ih =>
    rw [groupValue, BitVec.getLsbD_or, ih, groupTerm, BitVec.getLsbD_shiftLeft, BitVec.getLsbD_setWidth]
    by_cases hlow : i < 4 * n
    · simp [hlow, show i < 4 * (n + 1) by omega]
    · by_cases hhigh : i < 4 * (n + 1)
      · simp [hlow, hhigh, hi, show i - 4 * n = i % 4 by omega, show i / 4 = n by omega, show i % 4 < 32 by omega]
      · have hbeyond : (symNibble (y n)).getLsbD (i - 4 * n) = false := BitVec.getLsbD_of_ge _ _ (by omega)
        simp [hlow, hhigh, hbeyond]

/-- Symbol `j`'s nibble stands at bits 4j+3 to 4j: least significant nibble first (44_frame_parser.md R94). -/
theorem extractLsb'_groupValue (y : Nat → Sym) {n j : Nat} (hn : n ≤ 8) (hj : j < n) :
    (groupValue y n).extractLsb' (4 * j) 4 = symNibble (y j) := by
  refine BitVec.eq_of_getLsbD_eq fun i hi => ?_
  rw [BitVec.getLsbD_extractLsb', getLsbD_groupValue y (by omega), show (4 * j + i) / 4 = j by omega,
    show (4 * j + i) % 4 = i by omega]
  simp [hi, show 4 * j + i < 4 * n by omega]

theorem toNat_groupValue_lt (y : Nat → Sym) (n : Nat) : (groupValue y n).toNat < 2 ^ (4 * n) := by
  refine Nat.lt_pow_two_of_testBit _ fun i hi => ?_
  rw [BitVec.testBit_toNat]
  by_cases hin : i < 32
  · simp [getLsbD_groupValue y hin, show ¬ i < 4 * n by omega]
  · exact BitVec.getLsbD_of_ge _ _ (by omega)

/-! ### The symbols of a group -/

/-- The parser registers after `n` symbols from symbol `j` on of the group with id `g` at bit index `k`: a non-data
symbol of the trailer is noted (44_frame_parser.md R99). -/
def symbolRegs (s : State) (g : BitVec 4) (k j n : Nat) : ParserRegs :=
  { s.par with
    crcNondata := s.par.crcNondata || (decide (g = groupTrailer)
      && (List.range' j n).any fun i => !symIsData (symAt s (k + 5 * i))) }

/-- The frame flags after those symbols: an ERROR sets `f_badsym` (44_frame_parser.md R94). -/
def symbolFlags (s : State) (k j n : Nat) : FrameFlags :=
  { s.flags with
    badsym := s.flags.badsym || (List.range' j n).any fun i => decide (symAt s (k + 5 * i) = .error) }

theorem noteBadSymbol_eq {s : State} {k j : Nat} (hle : k + 5 * j + 5 ≤ nbits s) (g : BitVec 4) :
    noteBadSymbol g j (k + 5 * j) s = s.flagged s.phase s.par (symbolFlags s k j 1)
      (if symAt s (k + 5 * j) = .error then
        [recordOver (bitSpan s (k + 5 * j) (k + 5 * j + 5)) (.warning 4 g (BitVec.ofNat 3 j) 0 0)]
      else []) := by
  unfold noteBadSymbol
  rw [range_eq_bitSpan hle]
  split
  · next herror => simp [symbolFlags, herror, raise, emit, setBadsym, State.flagged, recordOver, diagnosticKind]
  · next hne => simp [symbolFlags, hne, State.flagged]

theorem noteNondata_eq (g : BitVec 4) (k j : Nat) (s : State) :
    noteNondata g (k + 5 * j) s = s.flagged s.phase (symbolRegs s g k j 1) s.flags [] := by
  unfold noteNondata
  split
  · next hnondata =>
    obtain ⟨hg, hdata⟩ := hnondata
    simp [symbolRegs, hg, hdata, setNondata, State.flagged]
  · next hdata =>
    have hnone : (decide (g = groupTrailer) && !symIsData (symAt s (k + 5 * j))) = false := by simpa using hdata
    simp [symbolRegs, hnone, State.flagged]

/-- One symbol of a group: its records, `f_badsym` and `crc_nondata` (44_frame_parser.md R94, R99). -/
theorem groupSymbol_eq {s : State} {k j : Nat} (hle : k + 5 * j + 5 ≤ nbits s) (g : BitVec 4) :
    groupSymbol g j (k + 5 * j) s =
      s.flagged s.phase (symbolRegs s g k j 1) (symbolFlags s k j 1) (symbolRecords s g k j) := by
  rw [groupSymbol, emitSymbol_received hle, parsed_eq_flagged, noteBadSymbol_eq (by exact hle), noteNondata_eq,
    flagged_flagged, flagged_flagged, List.append_nil]
  rfl

section
variable (s : State) (g : BitVec 4) (k j n : Nat) (p : Phase) (f : FrameFlags) (q : ParserRegs) (rs : List Record)

@[simp] theorem symbolRegs_idx : (symbolRegs s g k j n).idx = s.par.idx := rfl

@[simp] theorem symbolRegs_next : symbolRegs (s.flagged p (symbolRegs s g k j 1) f rs) g k (j + 1) n =
    symbolRegs s g k j (n + 1) := by
  simp [symbolRegs, List.range'_succ, Bool.or_assoc, Bool.and_or_distrib_left]

@[simp] theorem symbolFlags_next : symbolFlags (s.flagged p q (symbolFlags s k j 1) rs) k (j + 1) n =
    symbolFlags s k j (n + 1) := by
  simp only [symbolFlags, flagged_flags, List.range'_succ, List.range'_zero, List.any_cons, List.any_nil, Bool.or_false,
    Bool.or_assoc]
  rfl

end

/-- The symbols of a group that has its bits: the value so far, every symbol's records in order, and the flags
(44_frame_parser.md R94). -/
theorem groupSymbols_eq {g : BitVec 4} (n : Nat) : ∀ {j : Nat} {s : State}, s.par.idx + 5 * (j + n) ≤ nbits s →
    groupSymbols g n j (groupValue (fun i => symAt s (s.par.idx + 5 * i)) j) s =
      (groupValue (fun i => symAt s (s.par.idx + 5 * i)) (j + n),
        s.flagged s.phase (symbolRegs s g s.par.idx j n) (symbolFlags s s.par.idx j n)
          ((List.range' j n).flatMap (symbolRecords s g s.par.idx))) := by
  induction n with
  | zero =>
    intro j s _
    simp [groupSymbols, symbolRegs, symbolFlags, State.flagged]
  | succ n ih =>
    intro j s hle
    have hstep : groupSymbol g j (s.par.idx + 5 * j) s = s.flagged s.phase (symbolRegs s g s.par.idx j 1)
        (symbolFlags s s.par.idx j 1) (symbolRecords s g s.par.idx j) := groupSymbol_eq (by omega) g
    have hrest := ih (j := j + 1) (s := groupSymbol g j (s.par.idx + 5 * j) s)
      (by rw [hstep]; exact (by omega : s.par.idx + 5 * (j + 1 + n) ≤ nbits s))
    rw [hstep] at hrest
    simp only [flagged_par, flagged_phase, flagged_flagged, symAt_flagged, symbolRecords_flagged, symbolRegs_idx,
      symbolRegs_next, symbolFlags_next, Nat.add_assoc, Nat.add_comm 1 n] at hrest
    rw [groupSymbols, hstep, List.range'_succ, List.flatMap_cons]
    exact hrest

/-- A group that has its bits, whatever its symbols are (44_frame_parser.md R94). -/
theorem group_eq {n : Nat} {s : State} (hle : s.par.idx + 5 * n ≤ nbits s) (g : BitVec 4) :
    group n g s = (some (groupValue (fun j => symAt s (s.par.idx + 5 * j)) n),
      s.flagged s.phase { symbolRegs s g s.par.idx 0 n with idx := s.par.idx + 5 * n }
        (symbolFlags s s.par.idx 0 n) ((List.range' 0 n).flatMap (symbolRecords s g s.par.idx))) := by
  have hsyms := groupSymbols_eq (g := g) (j := 0) (s := s) n (by omega)
  rw [Nat.zero_add] at hsyms
  rw [group, if_neg (by omega)]
  exact congrArg (fun r : Word32 × State => (some r.1, setIdx (s.par.idx + 5 * n) r.2)) hsyms

/-- Settles O49: a group with its bits is its symbols taken one by one; one without them changes nothing. -/
theorem groupsDecodeLeastNibbleFirst : Obligations.GroupsDecodeLeastNibbleFirst := by
  intro s n g hn
  have hn8 : n ≤ 8 := by omega
  refine ⟨fun hcut => group_truncated (by omega) g, fun hfits =>
    ⟨_, _, group_eq hfits g, fun j hj => extractLsb'_groupValue _ hn8 hj, toNat_groupValue_lt _ n, ?_⟩⟩
  rw [List.range_eq_range']
  rfl

end Sys2Proof.Machine
end

section
/-! PROOFS. A frame cut off after an intact header (44_frame_parser.md R95, R98 to R100, 45_checksum.md R106): the
groups before the cut stand as sent, and every group from it on is looked for where the bits run out. -/

namespace Sys2Proof.Machine

/-! ### The symbols that stand whole before the cut -/

/-- A cut leaves every symbol whole that ends before it. -/
theorem sentAt_of_take {s : State} {pre : List Bool} {xs zs : List Sym} {cut : Nat} (hcut : 5 * xs.length ≤ cut)
    (h : s.win.bits.map BitRecord.value = pre ++ (symBits s.build (xs ++ zs)).take cut) : SentAt s pre.length xs := by
  refine sentAt_of_values (post := (symBits s.build zs).take (cut - 5 * xs.length)) xs ?_
  rw [h, symBits_append, List.take_append, length_symBits, List.take_of_length_le (by rw [length_symBits]; exact hcut)]

theorem length_bodySyms (h : Header16) (words : List Word32) (crc : Word32) :
    (bodySyms h words crc).length = 13 + 8 * words.length := by
  rw [bodySyms, List.length_append, List.length_append, List.length_append, length_valueSyms, length_valueSyms,
    length_flatMap_valueSyms, List.length_singleton]
  omega

/-- The symbols of a header and of `words` after it. -/
def headSyms (h : Header16) (words : List Word32) : List Sym :=
  valueSyms 4 (h.setWidth 32) ++ words.flatMap (valueSyms 8)

theorem length_headSyms (h : Header16) (words : List Word32) : (headSyms h words).length = 4 + 8 * words.length := by
  rw [headSyms, List.length_append, length_valueSyms, length_flatMap_valueSyms]

/-- After `m` data words a frame goes on with the least nibble of the next word, or of the trailer. -/
theorem bodySyms_eq_headSyms_append (h : Header16) {words : List Word32} {m : Nat} (hm : m ≤ words.length)
    (crc : Word32) : ∃ rest, bodySyms h words crc =
      headSyms h (words.take m) ++ [.data (((words ++ [crc]).getD m 0).extractLsb' 0 4)] ++ rest := by
  have hlt : m < (words ++ [crc]).length := by rw [List.length_append, List.length_singleton]; omega
  have hsplit : words ++ [crc] = words.take m ++ ((words ++ [crc]).getD m 0 :: (words ++ [crc]).drop (m + 1)) := by
    rw [List.getD_eq_getElem _ _ hlt, ← List.drop_eq_getElem_cons hlt, ← List.take_append_of_le_length hm,
      List.take_append_drop]
  have hbody : bodySyms h words crc =
      valueSyms 4 (h.setWidth 32) ++ ((words ++ [crc]).flatMap (valueSyms 8) ++ [.eop]) := by
    simp [bodySyms]
  generalize (words ++ [crc]).getD m 0 = v at hsplit ⊢
  have hfirst : valueSyms 8 v = .data (v.extractLsb' 0 4) :: (List.range' 1 7).map (dataSym v) := valueSyms_eq 8 v
  rw [hbody, hsplit]
  exact ⟨(List.range' 1 7).map (dataSym v) ++ ((words ++ [crc]).drop (m + 1)).flatMap (valueSyms 8) ++ [.eop],
    by simp [headSyms, hfirst]⟩

/-- With `m` data words whole before the cut, the header and these words stand as sent, and so does the next symbol if
five bits are left. -/
theorem sentAt_of_cut_body {s : State} {pre : List Bool} {h : Header16} {words : List Word32} {crc : Word32}
    {cut m : Nat} (hm : m ≤ words.length) (hcut : 20 + 40 * m ≤ cut)
    (hbits : s.win.bits.map BitRecord.value = pre ++ (symBits s.build (bodySyms h words crc)).take cut) :
    SentAt s pre.length (headSyms h (words.take m))
      ∧ (pre.length + 20 + 40 * m + 5 ≤ nbits s → SentAt s (pre.length + 20 + 40 * m)
          [.data (((words ++ [crc]).getD m 0).extractLsb' 0 4)]) := by
  obtain ⟨rest, hbody⟩ := bodySyms_eq_headSyms_append h hm crc
  have hlength : (headSyms h (words.take m)).length = 4 + 8 * m := by
    rw [length_headSyms, List.length_take_of_le hm]
  have hnbits : nbits s ≤ pre.length + cut := by
    have := congrArg List.length hbits
    rw [List.length_map, List.length_append, List.length_take] at this
    rw [nbits, this]
    omega
  rw [hbody] at hbits
  refine ⟨sentAt_of_take (by omega) (List.append_assoc _ _ _ ▸ hbits), fun hfits => ?_⟩
  have hnext := sentAt_of_take (by rw [List.length_append, hlength, List.length_singleton]; omega) hbits
  rw [show pre.length + 20 + 40 * m = pre.length + 5 * (headSyms h (words.take m)).length by rw [hlength]; omega]
  exact hnext.right

/-! ### Header and data words, up to the cut -/

theorem parseWords_add (m n : Nat) : ∀ (w : Nat) (s : State),
    parseWords (m + n) w s = parseWords n (w + m) (parseWords m w s) := by
  induction m with
  | zero =>
    intro w s
    rw [Nat.zero_add]
    rfl
  | succ m ih =>
    intro w s
    rw [Nat.add_right_comm, parseWords, ih, parseWords, Nat.add_assoc, Nat.add_comm 1]

/-- The payload of a frame that is cut off after the data words `whole`, with `r` words to come. -/
theorem parsePayload_cut {s : State} {whole : List Word32} {r : Nat} (hb : s.build.codeTable = defaultCodeTable)
    (hcount : s.par.count.toNat = whole.length + r) (hs : SentAt s s.par.idx (whole.flatMap (valueSyms 8)))
    (hcut : 0 < r → nbits s < s.par.idx + 40 * whole.length + 40) : parsePayload s =
      s.flagged .crc
        { s.par with
          idx := s.par.idx + 40 * whole.length, words := whole ++ List.replicate r s.build.sentinel32 }
        { s.flags with trunc := s.flags.trunc || decide (0 < r) }
        (wordGroupsFrom s 0 s.par.idx whole ++ truncatedWords s (s.par.idx + 40 * whole.length) whole.length r) := by
  have hwhole : parseWords whole.length 0 (clearWords s) = s.parsed s.phase
      { s.par with idx := s.par.idx + 40 * whole.length, words := whole } (wordGroupsFrom s 0 s.par.idx whole) := by
    have hclear : clearWords s = s.parsed s.phase { s.par with words := [] } [] := by
      simp [clearWords, State.parsed]
    rw [hclear, parseWords_sent whole (by exact hb) (by exact hs.parsed _ _ _), parsed_parsed]
    rfl
  rw [parsePayload, hcount, parseWords_add, hwhole, parsed_eq_flagged, Nat.zero_add]
  rcases Nat.eq_zero_or_pos r with rfl | hr
  · simp [parseWords, truncatedWords]
  · rw [parseWords_truncated r _ (by have := hcut hr; simp only [flagged_par, nbits_flagged]; omega), flagged_flagged,
      setPhase_flagged]
    rfl

/-- The parser registers before the trailer of a frame with header `h`: `m` words stand whole, and the words stored
are `stored`. -/
def payloadRegs (s : State) (h : Header16) (m : Nat) (stored : List Word32) : ParserRegs :=
  { s.par with idx := s.par.sopOff + 40 + 40 * m, hdr := h, count := hdrCount h, words := stored }

/-- The frame parser up to the trailer on a frame that is cut off after the data words `whole`, or is not cut off
before its trailer. -/
theorem parsePayload_afterSop {s : State} {row : SopRow} {h : Header16} {whole : List Word32} {r : Nat}
    (hb : s.build.codeTable = defaultCodeTable) (hkind : s.par.sopKind = row.kind)
    (hmatches : s.par.sopMatches = BitVec.ofNat 3 (startMatches s s.par.sopOff row))
    (hcount : whole.length + r = sentCount h) (hs : SentAt s (s.par.sopOff + 20) (headSyms h whole))
    (hcut : 0 < r → nbits s < s.par.sopOff + 40 + 40 * whole.length + 40) :
    parsePayload (parseHeader (afterSop s)) = s.flagged .crc
      (payloadRegs s h whole.length (whole ++ List.replicate r s.build.sentinel32))
      { s.flags with trunc := s.flags.trunc || decide (0 < r) }
      (startRecords s s.par.sopOff row ++ sentHeaderGroup s s.par.sopOff h ++ sentWordGroups s s.par.sopOff whole
        ++ truncatedWords s (s.par.sopOff + 40 + 40 * whole.length) whole.length r) := by
  have hle : s.par.sopOff + 20 ≤ nbits s := Nat.le_trans (Nat.le_add_right _ _) hs.le
  have hheader : parseHeader (afterSop s) = s.parsed .payload
      { s.par with idx := s.par.sopOff + 40, hdr := h, count := hdrCount h }
      (startRecords s s.par.sopOff row ++ sentHeaderGroup s s.par.sopOff h) := by
    rw [afterSop_eq hle hkind hmatches, parseHeader_sent (by exact hb) (by exact hs.left.parsed _ _ _), parsed_parsed]
    rfl
  have hwords : SentAt s (s.par.sopOff + 40) (whole.flatMap (valueSyms 8)) := hs.right
  rw [hheader, parsePayload_cut (by exact hb) (by exact (toNat_hdrCount h).trans hcount.symm)
    (by exact hwords.parsed _ _ _) (by exact hcut), parsed_eq_flagged, flagged_flagged, ← wordGroupsFrom_zero,
    ← List.append_assoc]
  rfl

/-! ### The terminator -/

/-- Where a symbol that stands as sent is no END-OF-PACKET, or no five bits are left, the terminator is missing
(44_frame_parser.md R100). -/
theorem missingTerminator_of_sent {s : State} {q : Nat} {y : Sym} (hb : s.build.codeTable = defaultCodeTable)
    (hy : y ≠ .eop) (hs : q + 5 ≤ nbits s → SentAt s q [y]) :
    hasTerminator s q = false ∧ terminatorRecords s q = missingTerminatorRecords s q y := by
  refine ⟨hasTerminator_eq_false_iff.2 fun hfits => ((hs hfits).symAt hb).symm ▸ hy, ?_⟩
  unfold terminatorRecords missingTerminatorRecords
  split
  · next hfits =>
    have hsym : symAt s q = y := (hs hfits).symAt hb
    have hcode : codeAt s q = codeOfSym s.build y := (hs hfits).1
    have hreceived : [receivedSymbol s 10 q 0] = sentSymbols s 10 q [y] := by
      simp [receivedSymbol, sentSymbols, hsym, hcode]
    rw [← hreceived, if_neg (hsym ▸ hy)]
    rfl
  · rfl

/-- A trailer cut off, and the terminator looked for where the cut group stands (44_frame_parser.md R99, R100). -/
theorem parseTerminator_parseTrailer_cut {s : State} {computed : Word32} {y : Sym}
    (hb : s.build.codeTable = defaultCodeTable)
    (hcomputed : computed = crc32 s.build.crcAlgo (ser s.par.hdr s.par.words)) (hcut : nbits s < s.par.idx + 40)
    (hy : y ≠ .eop) (hnext : s.par.idx + 5 ≤ nbits s → SentAt s s.par.idx [y]) :
    parseTerminator (parseTrailer s) = s.flagged .eop
      { s.par with
        crcStart := s.par.idx, crcNondata := false, crcRx := s.build.sentinel32, crcCalc := computed }
      { s.flags with
        trunc := true, crc := s.flags.crc || decide (computed ≠ s.build.sentinel32), noeop := true }
      (truncatedRecords s 9 s.par.idx (.crc s.build.sentinel32 true) ++ sentinelMismatch s s.par.idx computed
        ++ missingTerminatorRecords s s.par.idx y) := by
  obtain ⟨hnone, hmissing⟩ := missingTerminator_of_sent hb hy hnext
  rw [parseTerminator_parseTrailer_truncated hcomputed hcut, hnone, hmissing, Bool.not_false, Bool.or_true]
  rfl

/-! ### The frame path -/

/-- The parser registers after a frame that is cut off after `m` whole data words (45_checksum.md R106). -/
def cutRegs (s : State) (h : Header16) (m : Nat) (stored : List Word32) : ParserRegs :=
  { payloadRegs s h m stored with
    crcStart := s.par.sopOff + 40 + 40 * m
    crcRx := s.build.sentinel32
    crcNondata := false
    crcCalc := crc32 s.build.crcAlgo (ser h stored) }

/-- The frame flags after such a frame. -/
def cutFlags (s : State) (computed : Word32) : FrameFlags :=
  { s.flags with
    trunc := true
    crc := s.flags.crc || decide (computed ≠ s.build.sentinel32)
    noeop := true }

/-- The frame parser on a frame that is cut off after the data words `whole`, where the symbol `y` stands if five bits
are left. -/
theorem afterTerminator_cut {s : State} {row : SopRow} {h : Header16} {whole : List Word32} {r : Nat} {y : Sym}
    (hb : s.build.codeTable = defaultCodeTable) (hkind : s.par.sopKind = row.kind)
    (hmatches : s.par.sopMatches = BitVec.ofNat 3 (startMatches s s.par.sopOff row))
    (hcount : whole.length + r = sentCount h) (hs : SentAt s (s.par.sopOff + 20) (headSyms h whole))
    (hcut : nbits s < s.par.sopOff + 40 + 40 * whole.length + 40) (hy : y ≠ .eop)
    (hnext : s.par.sopOff + 40 + 40 * whole.length + 5 ≤ nbits s →
      SentAt s (s.par.sopOff + 40 + 40 * whole.length) [y]) :
    let q := s.par.sopOff + 40 + 40 * whole.length
    let stored := whole ++ List.replicate r s.build.sentinel32
    let computed := crc32 s.build.crcAlgo (ser h stored)
    afterTerminator s = s.flagged .eop (cutRegs s h whole.length stored) (cutFlags s computed)
      (startRecords s s.par.sopOff row ++ sentHeaderGroup s s.par.sopOff h ++ sentWordGroups s s.par.sopOff whole
        ++ truncatedWordsAndTrailer s q whole.length (whole.length + r) ++ sentinelMismatch s q computed
        ++ missingTerminatorRecords s q y) := by
  intro q stored computed
  rw [afterTerminator, parsePayload_afterSop hb hkind hmatches hcount hs fun _ => hcut,
    parseTerminator_parseTrailer_cut (computed := computed) (y := y) (by exact hb) rfl (by exact hcut) hy
      (by exact hnext), flagged_flagged, truncatedWordsAndTrailer_eq, Nat.add_sub_cancel_left]
  simp only [List.append_assoc]
  rfl

/-- What a frame that is cut off leaves to report: `f_trunc`, and a frame that is not valid
(46_window_output.md R118, R119). -/
theorem frameBody_cut {s : State} {row : SopRow} {h : Header16} {stored : List Word32}
    (hkind : s.par.sopKind = row.kind)
    (hmatches : s.par.sopMatches = BitVec.ofNat 3 (startMatches s s.par.sopOff row))
    (hcount : stored.length = sentCount h) (hflags : s.flags = { FrameFlags.cleared with ovf := s.flags.ovf })
    (m : Nat) (p : Phase) (rs : List Record) :
    frameBody (s.flagged p (cutRegs s h m stored) (cutFlags s (crc32 s.build.crcAlgo (ser h stored))) rs) =
      cutFrameBody s s.par.sopOff row h stored true := by
  have hhdrCount : hdrCount h = BitVec.ofNat 3 (sentCount h) := by
    rw [← toNat_hdrCount, BitVec.ofNat_toNat, BitVec.setWidth_eq]
  have hbadsym : s.flags.badsym = false := by rw [hflags]; rfl
  have hcrc : s.flags.crc = false := by rw [hflags]; rfl
  simp only [frameBody, cutRegs, payloadRegs, flagged_par, paddedWords_eq hcount]
  simp [cutFlags, frameValid, cutFrameBody, cleanFrameBody, hhdrCount, hkind, hmatches, hbadsym, hcrc]

/-- The frame path on a window that ends in a data word or in the trailer (44_frame_parser.md R95,
46_window_output.md R114). -/
theorem frameOutput_cut {s : State} {row : SopRow} {h : Header16} {words : List Word32} {crc : Word32} {m : Nat}
    (hb : s.build.codeTable = defaultCodeTable) (hkind : s.par.sopKind = row.kind)
    (hmatches : s.par.sopMatches = BitVec.ofNat 3 (startMatches s s.par.sopOff row))
    (hcount : words.length = sentCount h) (hm : m ≤ words.length)
    (hflags : s.flags = { FrameFlags.cleared with ovf := s.flags.ovf }) (hspan : s.win.firstT < s.win.prevT)
    (hs : SentAt s (s.par.sopOff + 20) (headSyms h (words.take m)))
    (hcut : nbits s < s.par.sopOff + 40 + 40 * m + 40)
    (hnext : s.par.sopOff + 40 + 40 * m + 5 ≤ nbits s →
      SentAt s (s.par.sopOff + 40 + 40 * m) [.data (((words ++ [crc]).getD m 0).extractLsb' 0 4)]) :
    (frameOutput s).out = s.out ++ cutFrameRecords s s.par.sopOff m row h words crc := by
  have hwhole : (words.take m).length = m := List.length_take_of_le hm
  have hle : s.par.sopOff + 40 + 40 * m ≤ nbits s := by
    have := hs.le
    rw [length_headSyms, hwhole] at this
    omega
  have hlt : s.par.sopOff < s.par.sopOff + 40 + 40 * m := by omega
  have hstored : (words.take m ++ List.replicate (words.length - m) s.build.sentinel32).length = sentCount h := by
    rw [List.length_append, hwhole, List.length_replicate]
    omega
  have hparsed := afterTerminator_cut (r := words.length - m) (y := .data (((words ++ [crc]).getD m 0).extractLsb' 0 4))
    hb hkind hmatches (by rw [hwhole]; omega) hs (by rw [hwhole]; exact hcut) (by simp) (by rw [hwhole]; exact hnext)
  simp only [hwhole, Nat.add_sub_cancel' hm] at hparsed
  rw [frameOutput_eq, hparsed,
    emitFrame_emitBitrate (by exact hlt) (by exact hle) (by exact hspan)
      (by exact frameBody_cut hkind hmatches hstored hflags _ _ _),
    flagged_out, cutFrameRecords, List.append_assoc]
  rfl

/-! ### A frame cut off in its terminator -/

/-- The parser registers after a frame that is cut off after its trailer. -/
def trailerRegs (s : State) (h : Header16) (words : List Word32) (crc : Word32) : ParserRegs :=
  { cleanRegs s.par h words crc with idx := s.par.sopOff + 80 + 40 * words.length }

theorem parseTerminator_cut {s : State} (hcut : nbits s < s.par.idx + 5) : parseTerminator s =
    s.flagged s.phase s.par { s.flags with noeop := true }
      [recordOver (bitSpan s s.par.idx (nbits s)) (.warning 6 10 0 0 0)] := by
  obtain ⟨-, -, hmissing⟩ := terminatorIsChecked s
  exact hmissing hcut

/-- The frame parser on a frame that is cut off after its trailer (44_frame_parser.md R100). -/
theorem afterTerminator_noTerminator {s : State} {row : SopRow} {h : Header16} {words : List Word32} {crc : Word32}
    (hb : s.build.codeTable = defaultCodeTable) (hkind : s.par.sopKind = row.kind)
    (hmatches : s.par.sopMatches = BitVec.ofNat 3 (startMatches s s.par.sopOff row))
    (hcount : words.length = sentCount h) (hcrc : crc = crc32 s.build.crcAlgo (ser h words))
    (hs : SentAt s (s.par.sopOff + 20) (headSyms h words ++ valueSyms 8 crc))
    (hcut : nbits s < s.par.sopOff + 80 + 40 * words.length + 5) :
    afterTerminator s = s.flagged .eop (trailerRegs s h words crc) { s.flags with noeop := true }
      (sentThroughTrailer s s.par.sopOff row h words crc
        ++ [recordOver (bitSpan s (s.par.sopOff + 80 + 40 * words.length) (nbits s)) (.warning 6 10 0 0 0)]) := by
  have htrailer : SentAt s (s.par.sopOff + 40 + 40 * words.length) (valueSyms 8 crc) := by
    have := hs.right
    rw [length_headSyms] at this
    convert this using 1
    omega
  have hpayload : parsePayload (parseHeader (afterSop s)) = s.parsed .crc (payloadRegs s h words.length words)
      (startRecords s s.par.sopOff row ++ sentHeaderGroup s s.par.sopOff h
        ++ sentWordGroups s s.par.sopOff words) := by
    rw [parsePayload_afterSop (r := 0) hb hkind hmatches hcount hs.left (fun h0 => absurd h0 (Nat.lt_irrefl 0))]
    simp [truncatedWords, parsed_eq_flagged]
  have htrailed : parseTrailer (parsePayload (parseHeader (afterSop s))) =
      s.parsed .eop (trailerRegs s h words crc) (sentThroughTrailer s s.par.sopOff row h words crc) := by
    rw [hpayload, parseTrailer_sent (by exact hb) (by exact hcrc) (by exact htrailer.parsed _ _ _), parsed_parsed,
      trailerRegs, show s.par.sopOff + 80 + 40 * words.length = s.par.sopOff + 40 + 40 * words.length + 40 by omega]
    rfl
  rw [afterTerminator, htrailed, parseTerminator_cut (by exact hcut), parsed_eq_flagged, flagged_flagged]
  rfl

/-- With its terminator cut off a frame is not valid, and every value in it is as sent (46_window_output.md R118,
R119). -/
theorem frameBody_noTerminator {s : State} {row : SopRow} {h : Header16} {words : List Word32} {crc : Word32}
    (hkind : s.par.sopKind = row.kind)
    (hmatches : s.par.sopMatches = BitVec.ofNat 3 (startMatches s s.par.sopOff row))
    (hcount : words.length = sentCount h) (hflags : s.flags = { FrameFlags.cleared with ovf := s.flags.ovf })
    (p : Phase) (rs : List Record) :
    frameBody (s.flagged p (trailerRegs s h words crc) { s.flags with noeop := true } rs) =
      { cleanFrameBody s s.par.sopOff row h words crc with fNoeop := true, valid := false } := by
  have hclean := frameBody_sent (crc := crc) hkind hmatches hcount hflags p rs
  have hinvalid : frameValid { s.flags with noeop := true } = false := by simp [frameValid]
  rw [← hclean, ← hinvalid]
  rfl

/-- The frame path on a window that ends in the terminator (44_frame_parser.md R100, 46_window_output.md R114). -/
theorem frameOutput_noTerminator {s : State} {row : SopRow} {h : Header16} {words : List Word32} {crc : Word32}
    (hb : s.build.codeTable = defaultCodeTable) (hkind : s.par.sopKind = row.kind)
    (hmatches : s.par.sopMatches = BitVec.ofNat 3 (startMatches s s.par.sopOff row))
    (hcount : words.length = sentCount h) (hcrc : crc = crc32 s.build.crcAlgo (ser h words))
    (hflags : s.flags = { FrameFlags.cleared with ovf := s.flags.ovf }) (hspan : s.win.firstT < s.win.prevT)
    (hs : SentAt s (s.par.sopOff + 20) (headSyms h words ++ valueSyms 8 crc))
    (hcut : nbits s < s.par.sopOff + 80 + 40 * words.length + 5) :
    (frameOutput s).out = s.out ++ noTerminatorRecords s s.par.sopOff row h words crc := by
  have hle : s.par.sopOff + 80 + 40 * words.length ≤ nbits s := by
    have := hs.le
    rw [List.length_append, length_headSyms, length_valueSyms] at this
    omega
  have hlt : s.par.sopOff < s.par.sopOff + 80 + 40 * words.length := by omega
  rw [frameOutput_eq, afterTerminator_noTerminator hb hkind hmatches hcount hcrc hs hcut,
    emitFrame_emitBitrate (by exact hlt) (by exact hle) (by exact hspan)
      (by exact frameBody_noTerminator hkind hmatches hcount hflags _ _),
    flagged_out, noTerminatorRecords, List.append_assoc]
  rfl

/-! ### The close -/

/-- Settles O60: the scan stops at the frame start, the groups before the cut stand as sent, and the cut falls in a
data word or the trailer, or in the terminator. -/
theorem cutFrameIsStillReported : Obligations.CutFrameIsStillReported := by
  intro s i row h words crc pre start cut hi hcloses htables hstart hcount hcut hbits
  obtain ⟨hcode, hsop, -⟩ := htables
  obtain ⟨⟨-, -, hopen⟩, -⟩ := id hcloses
  obtain ⟨-, hclass, hlen, -, -⟩ := id hstart
  obtain ⟨t, hexec, hout⟩ := hcloses.exec_out
  have hscan := hstart.syncScan_eq hcode hsop (hbits.trans (List.append_assoc _ _ _))
  have hnbits : nbits s = pre.length + 20 + min cut (65 + 40 * words.length) := by
    have := congrArg List.length hbits
    rw [List.length_map, List.length_append, List.length_append, List.length_take, length_symBits, length_bodySyms,
      hlen] at this
    rw [nbits, this]
    omega
  have hspan := hi.firstT_lt_prevT hopen (by omega)
  have hvalues : s.win.bits.map BitRecord.value =
      (pre ++ start) ++ (symBits s.build (bodySyms h words crc)).take cut := hbits
  have hstartLength : (pre ++ start).length = pre.length + 20 := by rw [List.length_append, hlen]
  refine ⟨fun hbefore => ⟨t, hexec, ?_⟩, fun hfrom hbefore hcrc => ⟨t, hexec, ?_⟩⟩
  · have hm : (cut - 20) / 40 ≤ words.length := by omega
    obtain ⟨hhead, hnext⟩ := sentAt_of_cut_body (m := (cut - 20) / 40) hm (by omega) hvalues
    rw [hstartLength] at hhead hnext
    rw [hout]
    exact closeWindow_out_framePath hscan hclass (frameOutput_cut (s := acceptedState s pre.length row) hcode rfl rfl
      hcount hm (hi.flags_eq hopen) hspan (hhead.parsed _ _ _)
      (by exact (by omega : nbits s < pre.length + 40 + 40 * ((cut - 20) / 40) + 40))
      fun hfits => (hnext hfits).parsed _ _ _)
  · have htrailer : SentAt s (pre.length + 20) (headSyms h words ++ valueSyms 8 crc) := by
      rw [← hstartLength]
      refine sentAt_of_take (zs := [.eop]) ?_ hvalues
      rw [List.length_append, length_headSyms, length_valueSyms]
      omega
    rw [hout]
    exact closeWindow_out_framePath hscan hclass (frameOutput_noTerminator (s := acceptedState s pre.length row) hcode
      rfl rfl hcount hcrc (hi.flags_eq hopen) hspan (htrailer.parsed _ _ _)
      (by exact (by omega : nbits s < pre.length + 80 + 40 * words.length + 5)))

end Sys2Proof.Machine
end

section
/-! PROOFS. The checksum (45_checksum.md R104 to R107): its check values, and CHECK as an equation for each outcome of
the comparison. -/

namespace Sys2Proof.Machine

/-! ### The check values -/

/-- Settles O52: each byte string of the table of R107 is run through the default checksum. -/
theorem crcCheckValues : Obligations.CrcCheckValues := by
  obtain ⟨-, hsentinel⟩ := sentinelChecksum
  exact ⟨by decide +kernel, by decide, by decide, by decide +kernel, by decide +kernel, by decide +kernel,
    by decide +kernel, hsentinel, by decide +kernel, by decide +kernel⟩

/-! ### CHECK -/

/-- A received value of data symbols only that equals the computed one passes (45_checksum.md R105). -/
theorem checkCrc_of_match {s : State} (hrx : s.par.crcRx = crc32 s.build.crcAlgo (ser s.par.hdr s.par.words))
    (hdata : s.par.crcNondata = false) : checkCrc s = computeCrc s := by
  refine if_neg ?_
  rintro (hne | hnondata)
  · exact hne hrx
  · exact absurd (hdata.symm.trans hnondata) (by decide)

/-- Any other is reported over the bits of the trailer (45_checksum.md R105). -/
theorem checkCrc_of_mismatch {s : State} {crc : Word32} (hcrc : crc = crc32 s.build.crcAlgo (ser s.par.hdr s.par.words))
    (h : s.par.crcRx ≠ crc ∨ s.par.crcNondata = true) : checkCrc s =
      s.flagged s.phase { s.par with crcCalc := crc } { s.flags with crc := true }
        [recordOver (bitSpan s s.par.crcStart (min (s.par.crcStart + 40) (nbits s)))
          (.warning 5 9 0 crc s.par.crcRx)] := by
  subst hcrc
  have hcompare : checkCrc s = _ := if_pos h
  rw [hcompare, range_eq_bitSpan (Nat.min_le_right _ _)]
  rfl

/-- Settles O51: the two outcomes of the comparison. -/
theorem checksumIsCompared : Obligations.ChecksumIsCompared := fun _ =>
  ⟨checkCrc_of_match, checkCrc_of_mismatch rfl⟩

end Sys2Proof.Machine
end

section
/-! PROOFS. A frame with one bit of its checksum trailer flipped (45_checksum.md R105, R107 (c)): the code group that
holds the bit reads as another symbol, every other group stands as sent. -/

namespace Sys2Proof.Machine

/-! ### One bit of sent symbols flipped -/

/-- A flipped bit makes a code another code. -/
theorem codeBits_flip {c : Code} {k : Nat} {v : Bool} (hk : k < 5) (hv : (codeBits c)[k]? = some v) :
    ∃ c', c' ≠ c ∧ (codeBits c).set k (!v) = codeBits c' := by
  have hflip : ∀ c : Code, ∀ k < 5, ∀ v, (codeBits c)[k]? = some v →
      c ^^^ BitVec.ofNat 5 (2 ^ k) ≠ c ∧ (codeBits c).set k (!v) = codeBits (c ^^^ BitVec.ofNat 5 (2 ^ k)) := by
    decide +kernel
  exact ⟨_, hflip c k hk v hv⟩

/-- The buffer and the tables decide what stands in it, whatever flags the parser has set. -/
theorem SentAt.flagged {s : State} {ys : List Sym} (p : Phase) (q : ParserRegs) (f : FrameFlags) (rs : List Record) :
    ∀ {k : Nat}, SentAt s k ys → SentAt (s.flagged p q f rs) k ys := by
  induction ys with
  | nil => exact id
  | cons y ys ih => exact fun h => ⟨h.1, ih h.2⟩

theorem SentAt.codeAt_getElem {s : State} {ys : List Sym} : ∀ {k i : Nat} (hi : i < ys.length), SentAt s k ys →
    codeAt s (k + 5 * i) = codeOfSym s.build ys[i] := by
  induction ys with
  | nil => exact fun hi => absurd hi (Nat.not_lt_zero _)
  | cons y ys ih =>
    intro k i hi h
    obtain ⟨hfirst, hrest⟩ := h
    cases i with
    | zero => exact hfirst
    | succ i =>
      rw [List.getElem_cons_succ, ← ih (Nat.lt_of_succ_lt_succ hi) hrest, Nat.mul_add, Nat.add_right_comm,
        Nat.add_assoc]

/-- With bit `k` of the symbols flipped, the code groups that do not hold it are those that stand as sent. -/
theorem codeAt_of_flip {s : State} {post : List Bool} {v : Bool} (ys : List Sym) : ∀ {pre : List Bool} {k : Nat},
    (symBits s.build ys)[k]? = some v →
    s.win.bits.map BitRecord.value = pre ++ ((symBits s.build ys).set k (!v) ++ post) →
    ∀ (i : Nat) (hi : i < ys.length), codeAt s (pre.length + 5 * i) = codeOfSym s.build ys[i] ↔ i ≠ k / 5 := by
  induction ys with
  | nil => exact fun _ _ _ hi => absurd hi (Nat.not_lt_zero _)
  | cons y ys ih =>
    intro pre k hv hbits i hi
    have hshift : ∀ c : Code, ∀ i, pre.length + 5 * (i + 1) = (pre ++ codeBits c).length + 5 * i := fun c i => by
      rw [List.length_append, length_codeBits]
      omega
    rw [symBits_cons] at hv hbits
    by_cases hk : k < 5
    · have hin : k < (codeBits (codeOfSym s.build y)).length := by rwa [length_codeBits]
      rw [List.getElem?_append_left hin] at hv
      obtain ⟨c, hne, hset⟩ := codeBits_flip hk hv
      rw [List.set_append_left _ _ hin, hset, List.append_assoc] at hbits
      cases i with
      | zero =>
        have hcode : codeAt s (pre.length + 5 * 0) = c := codeAt_of_values hbits
        rw [hcode]
        exact iff_of_false hne (by omega)
      | succ i =>
        have hrest : SentAt s (pre ++ codeBits c).length ys :=
          sentAt_of_values ys (by rw [hbits, List.append_assoc])
        rw [List.getElem_cons_succ, hshift c]
        exact iff_of_true (hrest.codeAt_getElem _) (by omega)
    · have hout : (codeBits (codeOfSym s.build y)).length ≤ k := by rw [length_codeBits]; omega
      rw [List.getElem?_append_right hout, length_codeBits] at hv
      rw [List.set_append_right _ _ hout, length_codeBits, List.append_assoc] at hbits
      cases i with
      | zero =>
        have hcode : codeAt s (pre.length + 5 * 0) = codeOfSym s.build y := codeAt_of_values hbits
        exact iff_of_true hcode (by omega)
      | succ i =>
        rw [List.getElem_cons_succ, hshift (codeOfSym s.build y),
          ih hv (by rw [hbits, List.append_assoc]) i (Nat.lt_of_succ_lt_succ hi)]
        omega

/-- No two codes are one data symbol (42_symbol_mapper.md R83 (b)). -/
theorem codeAt_eq_codeOfSym_iff {s : State} {k : Nat} {y : Sym} (hb : s.build.codeTable = defaultCodeTable)
    (hy : symIsData y = true) : codeAt s k = codeOfSym s.build y ↔ symAt s k = y := by
  have htable : ∀ c, codeSym s.build c = codeSym defaultBuild c := fun c => by rw [codeSym, hb]; rfl
  refine ⟨fun hcode => by rw [symAt, hcode, codeSym_codeOfSym hb], fun hsym => ?_⟩
  have hsame : codeSym defaultBuild (codeAt s k) = codeSym defaultBuild (codeOfSym s.build y) := by
    rw [← htable, ← htable, codeSym_codeOfSym hb, ← hsym, symAt]
  exact codeSym_inj_of_data (by rwa [hsame, ← htable, codeSym_codeOfSym hb]) hsame

/-! ### The symbols of the trailer -/

/-- Of the eight symbols from bit index `q` on, symbol `j` is not that of the checksum, and every other is. -/
def HitAt (s : State) (q : Nat) (crc : Word32) (j : Nat) : Prop :=
  ∀ i < 8, symAt s (q + 5 * i) = dataSym crc i ↔ i ≠ j

theorem hitAt_of_flip {s : State} {pre post : List Bool} {crc : Word32} {k : Nat} {v : Bool}
    (hb : s.build.codeTable = defaultCodeTable) (hv : (symBits s.build (valueSyms 8 crc))[k]? = some v)
    (hbits : s.win.bits.map BitRecord.value = pre ++ ((symBits s.build (valueSyms 8 crc)).set k (!v) ++ post)) :
    HitAt s pre.length crc (k / 5) := by
  intro i hi
  have hlt : i < (valueSyms 8 crc).length := by rwa [length_valueSyms]
  have hsym : (valueSyms 8 crc)[i] = dataSym crc i := by simp [valueSyms, dataSym]
  rw [← codeAt_eq_codeOfSym_iff hb rfl, ← hsym]
  exact codeAt_of_flip _ hv hbits i hlt

/-- The value of a trailer at bit index `q`, whatever its symbols are (44_frame_parser.md R94). -/
def trailerValue (s : State) (q : Nat) : Word32 := groupValue (fun i => symAt s (q + 5 * i)) 8

/-- Does the trailer at bit index `q` hold a non-data symbol (44_frame_parser.md R99)? -/
def trailerNondata (s : State) (q : Nat) : Bool := (List.range' 0 8).any fun i => !symIsData (symAt s (q + 5 * i))

section
variable {s : State} {q j : Nat} {crc : Word32}

/-- The received value differs from the checksum in the nibble hit only. -/
theorem HitAt.extractLsb'_trailerValue (h : HitAt s q crc j) {i : Nat} (hi : i < 8) :
    (trailerValue s q).extractLsb' (4 * i) 4 =
      if i = j then symNibble (symAt s (q + 5 * j)) else crc.extractLsb' (4 * i) 4 := by
  rw [trailerValue, extractLsb'_groupValue _ (Nat.le_refl 8) hi]
  split
  · next heq => rw [heq]
  · next hne => rw [(h i hi).2 hne]; rfl

/-- A symbol hit is not data, or its nibble is not that of the checksum: the comparison fails either way
(45_checksum.md R105). -/
theorem HitAt.mismatch (h : HitAt s q crc j) (hj : j < 8) : trailerValue s q ≠ crc ∨ trailerNondata s q = true := by
  have hne : symAt s (q + 5 * j) ≠ dataSym crc j := fun heq => (h j hj).1 heq rfl
  have hnibble := h.extractLsb'_trailerValue hj
  rw [if_pos rfl] at hnibble
  cases hhit : symAt s (q + 5 * j) with
  | data nib =>
    refine .inl fun heq => hne ?_
    rw [hhit, symNibble, heq] at hnibble
    rw [hhit, dataSym, hnibble]
  | _ => exact .inr (List.any_eq_true.2 ⟨j, List.mem_range'_1.2 (by omega), by rw [hhit]; rfl⟩)

/-- Only the symbol hit can be an ERROR. -/
theorem HitAt.any_error (h : HitAt s q crc j) (hj : j < 8) :
    ((List.range' 0 8).any fun i => decide (symAt s (q + 5 * i) = .error)) =
      decide (symAt s (q + 5 * j) = .error) := by
  rw [Bool.eq_iff_iff, List.any_eq_true]
  constructor
  · rintro ⟨i, hi, herror⟩
    have hij : i = j := by
      by_contra hne
      rw [(h i (List.mem_range'_1.1 hi).2).2 hne] at herror
      exact absurd herror (by simp [dataSym])
    rwa [← hij]
  · exact fun herror => ⟨j, List.mem_range'_1.2 (by omega), herror⟩

end

/-! ### The parser on a trailer of any symbols -/

theorem beginTrailer_eq (s : State) : beginTrailer s =
    s.flagged s.phase { s.par with crcStart := s.par.idx, crcNondata := false } s.flags [] := by
  simp [beginTrailer, State.flagged]

theorem setCrcRx_flagged (v : Word32) (s : State) (p : Phase) (q : ParserRegs) (f : FrameFlags) (rs : List Record) :
    setCrcRx v (s.flagged p q f rs) = s.flagged p { q with crcRx := v } f rs := rfl

/-- A group's value record is over the bits the group consumed (46_window_output.md R117). -/
theorem emitGroupRecord_flagged {n k : Nat} {s : State} {q : ParserRegs} (hidx : q.idx = k + 5 * n)
    (hle : k + 5 * n ≤ nbits s) (body : Body) (p : Phase) (f : FrameFlags) (rs : List Record) :
    emitGroupRecord n body (s.flagged p q f rs) =
      s.flagged p q f (rs ++ [recordOver (bitSpan s k (k + 5 * n)) body]) :=
  emitGroupRecord_parsed (s := { s with flags := f }) hidx hle body p rs

/-- A trailer that has its bits, whatever its symbols are (44_frame_parser.md R99). -/
theorem parseTrailerGroup_eq {s : State} (hle : s.par.idx + 40 ≤ nbits s) : parseTrailerGroup s =
    s.flagged s.phase
      { s.par with
        idx := s.par.idx + 40, crcStart := s.par.idx, crcNondata := trailerNondata s s.par.idx
        crcRx := trailerValue s s.par.idx }
      (symbolFlags s s.par.idx 0 8)
      ((List.range 8).flatMap (symbolRecords s 9 s.par.idx)
        ++ [recordOver (bitSpan s s.par.idx (s.par.idx + 40)) (.crc (trailerValue s s.par.idx) false)]) := by
  unfold parseTrailerGroup
  rw [beginTrailer_eq, group_eq (by exact hle)]
  dsimp only
  rw [flagged_flagged, setCrcRx_flagged, emitGroupRecord_flagged rfl (by exact hle)]
  rfl

/-- A trailer whose value or symbols are not those of the checksum gives one ChecksumMismatch (45_checksum.md R105). -/
theorem parseTrailer_mismatch {s : State} {crc : Word32} (hle : s.par.idx + 40 ≤ nbits s)
    (hcrc : crc = crc32 s.build.crcAlgo (ser s.par.hdr s.par.words))
    (hbad : trailerValue s s.par.idx ≠ crc ∨ trailerNondata s s.par.idx = true) : parseTrailer s =
      s.flagged .eop
        { s.par with
          idx := s.par.idx + 40, crcStart := s.par.idx, crcNondata := trailerNondata s s.par.idx
          crcRx := trailerValue s s.par.idx, crcCalc := crc }
        { symbolFlags s s.par.idx 0 8 with crc := true }
        ((List.range 8).flatMap (symbolRecords s 9 s.par.idx)
          ++ [recordOver (bitSpan s s.par.idx (s.par.idx + 40)) (.crc (trailerValue s s.par.idx) false),
              recordOver (bitSpan s s.par.idx (s.par.idx + 40)) (.warning 5 9 0 crc (trailerValue s s.par.idx))]) := by
  rw [parseTrailer, parseTrailerGroup_eq hle, checkCrc_of_mismatch (by exact hcrc) (by exact hbad), flagged_flagged,
    setPhase_flagged, nbits_flagged]
  dsimp only [flagged_par]
  rw [Nat.min_eq_left hle, List.append_assoc]
  rfl

/-! ### The frame path -/

/-- The parser registers after a frame whose trailer is not as sent. -/
def badTrailerRegs (s : State) (h : Header16) (words : List Word32) (crc : Word32) : ParserRegs :=
  { cleanRegs s.par h words crc with
    crcRx := trailerValue s (s.par.sopOff + 40 + 40 * words.length)
    crcNondata := trailerNondata s (s.par.sopOff + 40 + 40 * words.length) }

/-- The frame flags after such a frame. -/
def badTrailerFlags (s : State) (words : List Word32) : FrameFlags :=
  { symbolFlags s (s.par.sopOff + 40 + 40 * words.length) 0 8 with crc := true }

/-- A frame that stands as sent up to its trailer, a data symbol of the trailer hit, and an END-OF-PACKET after it. -/
structure BadTrailer (s : State) (k : Nat) (h : Header16) (words : List Word32) (crc : Word32) (j : Nat) : Prop where
  table : s.build.codeTable = defaultCodeTable
  count : words.length = sentCount h
  checksum : crc = crc32 s.build.crcAlgo (ser h words)
  head : SentAt s (k + 20) (headSyms h words)
  place : j < 8
  hit : HitAt s (k + 40 + 40 * words.length) crc j
  terminator : SentAt s (k + 80 + 40 * words.length) [.eop]

section
variable {s : State} {row : SopRow} {h : Header16} {words : List Word32} {crc : Word32} {j : Nat}

/-- The frame parser up to the trailer on a frame that stands as sent up to it. -/
theorem parsePayload_afterSop_sent (hb : s.build.codeTable = defaultCodeTable) (hkind : s.par.sopKind = row.kind)
    (hmatches : s.par.sopMatches = BitVec.ofNat 3 (startMatches s s.par.sopOff row))
    (hcount : words.length = sentCount h) (hs : SentAt s (s.par.sopOff + 20) (headSyms h words)) :
    parsePayload (parseHeader (afterSop s)) = s.parsed .crc (payloadRegs s h words.length words)
      (startRecords s s.par.sopOff row ++ sentHeaderGroup s s.par.sopOff h
        ++ sentWordGroups s s.par.sopOff words) := by
  rw [parsePayload_afterSop (r := 0) hb hkind hmatches hcount hs fun h0 => absurd h0 (Nat.lt_irrefl 0)]
  simp [truncatedWords, parsed_eq_flagged]

/-- The buffer and the tables, which the work on the window leaves, decide it. -/
theorem BadTrailer.parsed {k : Nat} (hbad : BadTrailer s k h words crc j) (p : Phase) (q : ParserRegs)
    (rs : List Record) : BadTrailer (s.parsed p q rs) k h words crc j :=
  { hbad with head := hbad.head.parsed _ _ _, terminator := hbad.terminator.parsed _ _ _ }

/-- The frame parser on a frame with one symbol of its trailer hit. -/
theorem BadTrailer.afterTerminator_eq (hbad : BadTrailer s s.par.sopOff h words crc j)
    (hkind : s.par.sopKind = row.kind)
    (hmatches : s.par.sopMatches = BitVec.ofNat 3 (startMatches s s.par.sopOff row)) :
    let q := s.par.sopOff + 40 + 40 * words.length
    afterTerminator s = s.flagged .eop (badTrailerRegs s h words crc) (badTrailerFlags s words)
      (startRecords s s.par.sopOff row ++ sentHeaderGroup s s.par.sopOff h ++ sentWordGroups s s.par.sopOff words
        ++ (List.range 8).flatMap (symbolRecords s 9 q)
        ++ [recordOver (bitSpan s q (q + 40)) (.crc (trailerValue s q) false),
            recordOver (bitSpan s q (q + 40)) (.warning 5 9 0 crc (trailerValue s q))]
        ++ sentTerminator s (q + 40)) := by
  intro q
  have hend : SentAt s (q + 40) [.eop] := by
    convert hbad.terminator using 1
    omega
  have hle : q + 40 ≤ nbits s := Nat.le_trans (Nat.le_add_right _ _) hend.le
  rw [afterTerminator, parsePayload_afterSop_sent hbad.table hkind hmatches hbad.count hbad.head,
    parseTrailer_mismatch (by exact hle) (by exact hbad.checksum) (by exact hbad.hit.mismatch hbad.place),
    parsed_eq_flagged, flagged_flagged, parseTerminator_sent (by exact hbad.table) (by exact hend.flagged _ _ _ _),
    parsed_eq_flagged, flagged_flagged]
  simp only [List.append_assoc]
  rfl

/-- What such a frame leaves to report: the received value, `f_crc`, `f_badsym` if the symbol hit is an ERROR, and a
frame that is not valid (46_window_output.md R118, R119). -/
theorem BadTrailer.frameBody_eq (hbad : BadTrailer s s.par.sopOff h words crc j) (hkind : s.par.sopKind = row.kind)
    (hmatches : s.par.sopMatches = BitVec.ofNat 3 (startMatches s s.par.sopOff row))
    (hflags : s.flags = { FrameFlags.cleared with ovf := s.flags.ovf }) (p : Phase) (rs : List Record) :
    frameBody (s.flagged p (badTrailerRegs s h words crc) (badTrailerFlags s words) rs) =
      let q := s.par.sopOff + 40 + 40 * words.length
      { cleanFrameBody s s.par.sopOff row h words crc with
        crcRx := trailerValue s q, fBadsym := decide (symAt s (q + 5 * j) = .error), fCrc := true
        valid := false } := by
  have hclean := frameBody_sent (crc := crc) hkind hmatches hbad.count hflags p rs
  have hinvalid : frameValid (badTrailerFlags s words) = false := by simp [frameValid, badTrailerFlags]
  have hbadsym : (badTrailerFlags s words).badsym =
      decide (symAt s (s.par.sopOff + 40 + 40 * words.length + 5 * j) = .error) := by
    rw [← hbad.hit.any_error hbad.place, badTrailerFlags, symbolFlags, hflags]
    exact Bool.false_or _
  dsimp only
  rw [← hclean, ← hinvalid, ← hbadsym]
  rfl

/-- The frame path on a window with such a frame (46_window_output.md R114). -/
theorem BadTrailer.frameOutput_out (hbad : BadTrailer s s.par.sopOff h words crc j) (hkind : s.par.sopKind = row.kind)
    (hmatches : s.par.sopMatches = BitVec.ofNat 3 (startMatches s s.par.sopOff row))
    (hflags : s.flags = { FrameFlags.cleared with ovf := s.flags.ovf }) (hspan : s.win.firstT < s.win.prevT) :
    let q := s.par.sopOff + 40 + 40 * words.length
    (frameOutput s).out = s.out ++ badTrailerRecords s s.par.sopOff row h words crc (trailerValue s q)
      (decide (symAt s (q + 5 * j) = .error)) := by
  intro q
  have hle : q + 45 ≤ nbits s := by
    have := hbad.terminator.le
    rw [List.length_singleton] at this
    omega
  have hlt : s.par.sopOff < q + 45 := by omega
  rw [frameOutput_eq, hbad.afterTerminator_eq hkind hmatches,
    emitFrame_emitBitrate (by exact hlt) (by exact hle) (by exact hspan)
      (by exact hbad.frameBody_eq hkind hmatches hflags _ _),
    flagged_out, badTrailerRecords, List.append_assoc]
  rfl

end

/-! ### The close -/

/-- The bits of a frame with bit `k` flipped, in its trailer. -/
theorem symBits_bodySyms_set (b : Build) (h : Header16) {words : List Word32} (crc : Word32) {k : Nat}
    (hfrom : 20 + 40 * words.length ≤ k) (hto : k < 60 + 40 * words.length) (v : Bool) :
    (symBits b (bodySyms h words crc))[k]? = (symBits b (valueSyms 8 crc))[k - (20 + 40 * words.length)]?
      ∧ (symBits b (bodySyms h words crc)).set k v = symBits b (headSyms h words)
        ++ ((symBits b (valueSyms 8 crc)).set (k - (20 + 40 * words.length)) v ++ symBits b [.eop]) := by
  have hbody : symBits b (bodySyms h words crc) =
      symBits b (headSyms h words) ++ (symBits b (valueSyms 8 crc) ++ symBits b [.eop]) := by
    rw [bodySyms, ← headSyms, List.append_assoc, symBits_append, symBits_append]
  have hhead : (symBits b (headSyms h words)).length = 20 + 40 * words.length := by
    rw [length_symBits, length_headSyms]
    omega
  have htrailer : k - (20 + 40 * words.length) < (symBits b (valueSyms 8 crc)).length := by
    rw [length_symBits, length_valueSyms]
    omega
  rw [hbody, List.getElem?_append_right (by omega), hhead, List.getElem?_append_left htrailer,
    List.set_append_right _ _ (by omega), hhead, List.set_append_left _ _ htrailer]
  exact ⟨rfl, rfl⟩

/-- A frame sent with one bit of its trailer flipped, as it stands in the buffer. -/
theorem badTrailer_of_values {s : State} {pre start post : List Bool} {h : Header16} {words : List Word32}
    {crc : Word32} {k : Nat} {v : Bool} (hb : s.build.codeTable = defaultCodeTable)
    (hcount : words.length = sentCount h) (hcrc : crc = crc32 s.build.crcAlgo (ser h words))
    (hfrom : 20 + 40 * words.length ≤ k) (hto : k < 60 + 40 * words.length)
    (hv : (symBits s.build (bodySyms h words crc))[k]? = some v)
    (hbits : s.win.bits.map BitRecord.value =
      (pre ++ start) ++ ((symBits s.build (bodySyms h words crc)).set k (!v) ++ post)) (hlen : start.length = 20) :
    BadTrailer s pre.length h words crc ((k - (20 + 40 * words.length)) / 5) := by
  obtain ⟨hbit, hset⟩ := symBits_bodySyms_set s.build h crc hfrom hto (!v)
  have hvalues : s.win.bits.map BitRecord.value = (pre ++ start) ++ (symBits s.build (headSyms h words)
      ++ ((symBits s.build (valueSyms 8 crc)).set (k - (20 + 40 * words.length)) (!v)
        ++ (symBits s.build [.eop] ++ post))) := by
    rw [hbits, hset, List.append_assoc (symBits s.build _), List.append_assoc (List.set _ _ _)]
  have htrailer := hvalues.trans (List.append_assoc _ _ _).symm
  have hhead := sentAt_of_values _ hvalues
  have hhit := hitAt_of_flip hb (hbit ▸ hv) htrailer
  have hend := sentAt_of_values _ (htrailer.trans (List.append_assoc _ _ _).symm)
  simp only [List.length_append, List.length_set, length_symBits, length_headSyms, length_valueSyms,
    hlen] at hhead hhit hend
  refine ⟨hb, hcount, hcrc, hhead, by omega, ?_, ?_⟩
  · convert hhit using 1
    omega
  · convert hend using 1
    omega

/-- Settles O55: the flipped bit leaves one symbol of the trailer that is not the checksum's, and the comparison fails
by its nibble or because it is not data. -/
theorem flippedTrailerBitIsCaught : Obligations.FlippedTrailerBitIsCaught := by
  intro s i row h words crc pre start post sent k v hi hcloses htables hstart hcount hcrc hsent hfrom hto hv hbits hit
  obtain ⟨hcode, hsop, -⟩ := htables
  obtain ⟨⟨-, -, hopen⟩, -⟩ := id hcloses
  obtain ⟨-, hclass, hlen, -, -⟩ := id hstart
  obtain ⟨t, hexec, hout⟩ := hcloses.exec_out
  subst hsent
  rw [List.append_assoc] at hbits
  have hbad := badTrailer_of_values hcode hcount hcrc hfrom hto hv hbits hlen
  have hscan := hstart.syncScan_eq hcode hsop (hbits.trans (List.append_assoc _ _ _))
  have hspan := hi.firstT_lt_prevT hopen (Nat.lt_of_lt_of_le (by omega) hbad.head.le)
  have hplace : hit = symAt s
      (pre.length + 40 + 40 * words.length + 5 * ((k - (20 + 40 * words.length)) / 5)) :=
    congrArg (symAt s) (by omega)
  refine ⟨t, trailerValue s (pre.length + 40 + 40 * words.length), hexec, ?_, fun j hj => ?_⟩
  · rw [hout, hplace]
    exact closeWindow_out_framePath hscan hclass (BadTrailer.frameOutput_out (s := acceptedState s pre.length row)
      (hbad.parsed _ _ _) rfl rfl (hi.flags_eq hopen) hspan)
  · rw [hplace, Nat.sub_sub]
    exact hbad.hit.extractLsb'_trailerValue hj

end Sys2Proof.Machine
end

section
/-! PROOFS. The flags of a frame and the warnings of its window (60_exceptions.md R129 to R133, 45_checksum.md R105,
46_window_output.md R119): the parser sets a flag exactly where it raises the flag's warning. -/

namespace Sys2Proof.Machine

/-! ### Flags and warnings -/

/-- The frame flag that the parser sets with a diagnostic; with those of the whole window it sets none. -/
def flagOf : Diagnostic → FrameFlags → Bool
  | .truncatedFrame, f => f.trunc
  | .badSymbol, f => f.badsym
  | .checksumMismatch, f => f.crc
  | .missingTerminator, f => f.noeop
  | .demodulationError, _ => false
  | .syncNotFound, _ => false
  | .bufferOverflow, _ => false

/-- No WARNING and no terminal record. -/
def isPlain : Body → Bool
  | .warning _ _ _ _ _ => false
  | .frame _ => false
  | .reset _ _ _ => false
  | .junk _ _ => false
  | _ => true

theorem isWarning_of_isPlain {r : Record} (h : isPlain r.body = true) (d : Diagnostic) : isWarning d r = false := by
  obtain ⟨a, b, body⟩ := r
  cases body with
  | warning => cases h
  | _ => rfl

theorem isTerminal_of_isPlain {r : Record} (h : isPlain r.body = true) : isTerminal r = false := by
  obtain ⟨a, b, body⟩ := r
  cases body with
  | frame => cases h
  | reset => cases h
  | junk => cases h
  | _ => rfl

/-- The kinds of the diagnostics are all different (30_encoding.md R57). -/
theorem isWarning_warning (d d' : Diagnostic) (a b : Sample) (g : BitVec 4) (p : BitVec 3) (x y : Word32) :
    isWarning d ⟨a, b, .warning (diagnosticKind d') g p x y⟩ = decide (d = d') := by
  cases d <;> cases d' <;> rfl

/-- From `s` to `t` each flag is set exactly when its warning is emitted, no other warning is, and no terminal
record. -/
def FlagFrame (s t : State) : Prop :=
  ∃ rs, t.out = s.out ++ rs ∧ (∀ d, flagOf d t.flags = (flagOf d s.flags || rs.any (isWarning d)))
    ∧ ∀ r ∈ rs, isTerminal r = false

/-- An operation that writes neither the flags nor the output. -/
theorem FlagFrame.ofSilent {s t : State} (hflags : t.flags = s.flags) (hout : t.out = s.out) : FlagFrame s t :=
  ⟨[], by rw [hout, List.append_nil], fun _ => by rw [hflags, List.any_nil, Bool.or_false],
    fun _ hr => absurd hr List.not_mem_nil⟩

theorem FlagFrame.refl (s : State) : FlagFrame s s := .ofSilent rfl rfl

theorem FlagFrame.trans {s t u : State} (h : FlagFrame s t) (k : FlagFrame t u) : FlagFrame s u := by
  obtain ⟨rs, hout, hflags, hterm⟩ := h
  obtain ⟨rs', hout', hflags', hterm'⟩ := k
  exact ⟨rs ++ rs', by rw [hout', hout, List.append_assoc],
    fun d => by rw [hflags', hflags, List.any_append, Bool.or_assoc], List.forall_mem_append.2 ⟨hterm, hterm'⟩⟩

theorem emit_flagFrame {r : Record} (h : isPlain r.body = true) (s : State) : FlagFrame s (emit r s) :=
  ⟨[r], rfl, fun d => by rw [List.any_cons, isWarning_of_isPlain h, emit_flags]; simp,
    fun _ hr => List.mem_singleton.1 hr ▸ isTerminal_of_isPlain h⟩

/-- A warning raised with its flag. -/
theorem raise_flagFrame {d : Diagnostic} {s : State} {f : FrameFlags}
    (hf : ∀ d', flagOf d' f = (flagOf d' s.flags || decide (d' = d))) (g : BitVec 4) (p : BitVec 3) (e a : Word32)
    (rng : Sample × Sample) : FlagFrame s (raise d g p e a rng { s with flags := f }) :=
  ⟨[⟨rng.1, rng.2, .warning (diagnosticKind d) g p e a⟩], rfl,
    fun d' => by rw [List.any_cons, isWarning_warning, List.any_nil, Bool.or_false, raise_flags, hf],
    fun _ hr => List.mem_singleton.1 hr ▸ rfl⟩

/-! ### The parser -/

theorem emitSymbol_flagFrame (g : BitVec 4) (pos k : Nat) (s : State) : FlagFrame s (emitSymbol g pos k s) :=
  emit_flagFrame rfl s

theorem noteBadSymbol_flagFrame (g : BitVec 4) (pos k : Nat) (s : State) :
    FlagFrame s (noteBadSymbol g pos k s) := by
  unfold noteBadSymbol
  split
  · exact raise_flagFrame (fun d => by cases d <;> simp [flagOf]) _ _ _ _ _
  · exact .refl s

theorem noteNondata_flagFrame (g : BitVec 4) (k : Nat) (s : State) : FlagFrame s (noteNondata g k s) := by
  unfold noteNondata
  split
  · exact .ofSilent rfl rfl
  · exact .refl s

theorem groupSymbol_flagFrame (g : BitVec 4) (pos k : Nat) (s : State) : FlagFrame s (groupSymbol g pos k s) :=
  ((emitSymbol_flagFrame g pos k s).trans (noteBadSymbol_flagFrame g pos k _)).trans (noteNondata_flagFrame g k _)

theorem groupSymbols_flagFrame (g : BitVec 4) (n : Nat) : ∀ (j : Nat) (v : Word32) (s : State),
    FlagFrame s (groupSymbols g n j v s).2 := by
  induction n with
  | zero => exact fun _ _ s => .refl s
  | succ n ih => exact fun j v s => (groupSymbol_flagFrame g j _ s).trans (ih (j + 1) _ _)

theorem group_flagFrame (n : Nat) (g : BitVec 4) (s : State) : FlagFrame s (group n g s).2 := by
  have hidx : ∀ k u, FlagFrame u (setIdx k u) := fun _ _ => .ofSilent rfl rfl
  unfold group
  split
  · exact .refl s
  · exact (groupSymbols_flagFrame g n 0 0 s).trans (hidx _ _)

theorem truncatedGroup_flagFrame (g : BitVec 4) {b : Body} (hb : isPlain b = true) (s : State) :
    FlagFrame s (truncatedGroup g b s) := by
  have hemit : FlagFrame s (emit ⟨_, _, b⟩ s) :=
    emit_flagFrame (r := ⟨(range s s.par.idx (nbits s)).1, (range s s.par.idx (nbits s)).2, b⟩) hb s
  exact hemit.trans (raise_flagFrame (fun d => by cases d <;> simp [flagOf]) _ _ _ _ _)

theorem emitGroupRecord_flagFrame (n : Nat) {b : Body} (hb : isPlain b = true) (s : State) :
    FlagFrame s (emitGroupRecord n b s) := emit_flagFrame hb s

theorem setPhase_flagFrame (p : Phase) (s : State) : FlagFrame s (setPhase p s) := .ofSilent rfl rfl
theorem setHeader_flagFrame (h : Header16) (s : State) : FlagFrame s (setHeader h s) := .ofSilent rfl rfl
theorem pushWord_flagFrame (v : Word32) (s : State) : FlagFrame s (pushWord v s) := .ofSilent rfl rfl
theorem setCrcRx_flagFrame (v : Word32) (s : State) : FlagFrame s (setCrcRx v s) := .ofSilent rfl rfl

theorem parseHeader_flagFrame (s : State) : FlagFrame s (parseHeader s) := by
  unfold parseHeader
  have h := group_flagFrame 4 groupHeader s
  split <;> (rename_i heq; rw [heq] at h)
  · exact ((h.trans (setHeader_flagFrame _ _)).trans (truncatedGroup_flagFrame _ rfl _)).trans
      (setPhase_flagFrame _ _)
  · exact ((h.trans (setHeader_flagFrame _ _)).trans (emitGroupRecord_flagFrame _ rfl _)).trans
      (setPhase_flagFrame _ _)

theorem parseWord_flagFrame (w : Nat) (s : State) : FlagFrame s (parseWord w s) := by
  unfold parseWord
  have h := group_flagFrame 8 (groupWord w) s
  split <;> (rename_i heq; rw [heq] at h)
  · exact (h.trans (pushWord_flagFrame _ _)).trans (truncatedGroup_flagFrame _ rfl _)
  · exact (h.trans (pushWord_flagFrame _ _)).trans (emitGroupRecord_flagFrame _ rfl _)

theorem parseWords_flagFrame (n : Nat) : ∀ (w : Nat) (s : State), FlagFrame s (parseWords n w s) := by
  induction n with
  | zero => exact fun _ s => .refl s
  | succ n ih => exact fun w s => (parseWord_flagFrame w s).trans (ih (w + 1) _)

theorem parsePayload_flagFrame (s : State) : FlagFrame s (parsePayload s) := by
  have hclear : FlagFrame s (clearWords s) := .ofSilent rfl rfl
  exact (hclear.trans (parseWords_flagFrame _ _ _)).trans (setPhase_flagFrame _ _)

theorem parseTrailerGroup_flagFrame (s : State) : FlagFrame s (parseTrailerGroup s) := by
  unfold parseTrailerGroup
  have hbegin : FlagFrame s (beginTrailer s) := .ofSilent rfl rfl
  have h := hbegin.trans (group_flagFrame 8 groupTrailer (beginTrailer s))
  split <;> (rename_i heq; rw [heq] at h)
  · exact (h.trans (setCrcRx_flagFrame _ _)).trans (truncatedGroup_flagFrame _ rfl _)
  · exact (h.trans (setCrcRx_flagFrame _ _)).trans (emitGroupRecord_flagFrame _ rfl _)

theorem compareCrc_flagFrame (s : State) : FlagFrame s (compareCrc s) := by
  unfold compareCrc
  split
  · exact raise_flagFrame (fun d => by cases d <;> simp [flagOf]) _ _ _ _ _
  · exact .refl s

theorem parseTrailer_flagFrame (s : State) : FlagFrame s (parseTrailer s) := by
  have hcompute : FlagFrame (parseTrailerGroup s) (computeCrc (parseTrailerGroup s)) := .ofSilent rfl rfl
  exact (((parseTrailerGroup_flagFrame s).trans hcompute).trans (compareCrc_flagFrame _)).trans
    (setPhase_flagFrame _ _)

theorem missingTerminator_flagFrame (rng : Sample × Sample) (s : State) : FlagFrame s (missingTerminator rng s) :=
  raise_flagFrame (fun d => by cases d <;> simp [flagOf]) _ _ _ _ _

theorem parseTerminator_flagFrame (s : State) : FlagFrame s (parseTerminator s) := by
  have hsym := emitSymbol_flagFrame groupTerminator 0 s.par.idx s
  have hidx : ∀ k u, FlagFrame u (setIdx k u) := fun _ _ => .ofSilent rfl rfl
  unfold parseTerminator
  dsimp only
  split
  · split
    · exact (hsym.trans (emit_flagFrame (r := ⟨_, _, .eop⟩) rfl _)).trans (hidx _ _)
    · exact hsym.trans (missingTerminator_flagFrame _ _)
  · exact missingTerminator_flagFrame _ s

theorem afterSop_flagFrame (s : State) : FlagFrame s (afterSop s) := by
  have hpreamble : FlagFrame s (emitPreamble s) := by
    unfold emitPreamble
    split
    · exact emit_flagFrame rfl s
    · exact .refl s
  have hsymbols : ∀ u, FlagFrame u (emitSopSymbols u) := fun u =>
    (((emitSymbol_flagFrame _ _ _ u).trans (emitSymbol_flagFrame _ _ _ _)).trans
      (emitSymbol_flagFrame _ _ _ _)).trans (emitSymbol_flagFrame _ _ _ _)
  have hsop : ∀ u, FlagFrame u (emitSop u) := fun u => emit_flagFrame rfl u
  have henter : ∀ u, FlagFrame u (enterParser u) := fun _ => .ofSilent rfl rfl
  exact ((hpreamble.trans (hsymbols _)).trans (hsop _)).trans (henter _)

/-- The whole parse: each flag and its warning together (44_frame_parser.md R94, R95, R100, 45_checksum.md R105). -/
theorem afterTerminator_flagFrame (s : State) : FlagFrame s (afterTerminator s) :=
  ((((afterSop_flagFrame s).trans (parseHeader_flagFrame _)).trans (parsePayload_flagFrame _)).trans
    (parseTrailer_flagFrame _)).trans (parseTerminator_flagFrame _)

/-! ### The records of a close -/

theorem isWarning_of_mem_demodWarnings {s : State} {r : Record} (hr : r ∈ demodWarnings s) (d : Diagnostic) :
    isWarning d r = decide (d = .demodulationError) := by
  obtain ⟨e, -, rfl⟩ := List.mem_map.1 hr
  exact isWarning_warning d .demodulationError _ _ _ _ _ _

theorem any_overflowWarnings (s : State) (d : Diagnostic) :
    (overflowWarnings s).any (isWarning d) = (s.flags.ovf && decide (d = .bufferOverflow)) := by
  have hwarning := isWarning_warning d .bufferOverflow s.win.firstT s.win.prevT 15 0 0 0
  unfold overflowWarnings
  cases s.flags.ovf
  · rfl
  · exact (Bool.or_false _).trans hwarning

theorem isTerminal_of_mem_windowWarnings {s : State} {r : Record} (hr : r ∈ windowWarnings s) :
    isTerminal r = false := by
  rcases List.mem_append.1 hr with hr | hr
  · obtain ⟨e, -, rfl⟩ := List.mem_map.1 hr
    rfl
  · unfold overflowWarnings at hr
    split at hr
    · exact List.mem_singleton.1 hr ▸ rfl
    · exact absurd hr List.not_mem_nil

theorem isPlain_of_mem_rawRecords {s : State} {r : Record} (hr : r ∈ rawRecords s) : isPlain r.body = true := by
  unfold rawRecords at hr
  split at hr
  · exact List.mem_singleton.1 hr ▸ rfl
  · exact absurd hr List.not_mem_nil

theorem any_rawRecords (s : State) (d : Diagnostic) : (rawRecords s).any (isWarning d) = false :=
  List.any_eq_false.2 fun _ hr => by rw [isWarning_of_isPlain (isPlain_of_mem_rawRecords hr)]; decide

theorem countP_eq_zero_of_any {rs : List Record} {p : Record → Bool} (h : rs.any p = false) : rs.countP p = 0 :=
  List.countP_eq_zero.2 fun r hr hp => List.any_eq_false.1 h r hr hp

/-- What a close on the frame path emits, if the parse emits `parse`, FRAME is over `rng` with body `f`, and BITRATE
has the value `bps` (46_window_output.md R110, R114). -/
def framePathRecords (s : State) (parse : List Record) (rng : Sample × Sample) (f : FrameBody) (bps : BitVec 64) :
    List Record :=
  windowWarnings s ++ (parse ++ [⟨rng.1, rng.2, .frame f⟩, ⟨rng.1, rng.2, .bitrate bps⟩]) ++ rawRecords s

section
variable {s : State} {parse : List Record} {rng : Sample × Sample} {f : FrameBody} {bps : BitVec 64}

/-- BufferOverflow is reported when a bit was discarded, every other diagnostic but DemodulationError by the parse. -/
theorem any_framePathRecords {d : Diagnostic} (hd : d ≠ .demodulationError) :
    (framePathRecords s parse rng f bps).any (isWarning d) =
      ((s.flags.ovf && decide (d = .bufferOverflow)) || parse.any (isWarning d)) := by
  have hdemod : (demodWarnings s).any (isWarning d) = false :=
    List.any_eq_false.2 fun _ hr => by rw [isWarning_of_mem_demodWarnings hr, decide_eq_false hd]; decide
  simp [framePathRecords, windowWarnings, hdemod, any_overflowWarnings, any_rawRecords, isWarning]

/-- The parse raises no DemodulationError: they are those of the window (46_window_output.md R111). -/
theorem countP_framePathRecords (hparse : parse.any (isWarning .demodulationError) = false) :
    (framePathRecords s parse rng f bps).countP (isWarning .demodulationError) = s.win.demodErrs.length := by
  have hdemod : (demodWarnings s).countP (isWarning .demodulationError) = s.win.demodErrs.length := by
    rw [List.countP_eq_length.2 fun _ hr => by rw [isWarning_of_mem_demodWarnings hr]; rfl, demodWarnings,
      List.length_map]
  have hoverflow : (overflowWarnings s).any (isWarning .demodulationError) = false := by
    rw [any_overflowWarnings]
    simp
  simp [framePathRecords, windowWarnings, hdemod, countP_eq_zero_of_any hoverflow, countP_eq_zero_of_any hparse,
    countP_eq_zero_of_any (any_rawRecords s _), isWarning]

/-- FRAME is the one terminal record. -/
theorem eq_of_frame_mem_framePathRecords (hparse : ∀ r ∈ parse, isTerminal r = false) {r : Record} {g : FrameBody}
    (hr : r ∈ framePathRecords s parse rng f bps) (hg : r.body = .frame g) : g = f := by
  have hterm : isTerminal r = true := by rw [isTerminal, hg]
  have hfrom : ∀ rs : List Record, (∀ x ∈ rs, isTerminal x = false) → r ∉ rs := fun rs hrs hmem => by
    rw [hrs r hmem] at hterm
    cases hterm
  rcases List.mem_append.1 hr with hr | hr
  · rcases List.mem_append.1 hr with hr | hr
    · exact absurd hr (hfrom _ fun _ => isTerminal_of_mem_windowWarnings)
    · rcases List.mem_append.1 hr with hr | hr
      · exact absurd hr (hfrom _ hparse)
      · rcases List.mem_pair.1 hr with rfl | rfl
        · cases hg
          rfl
        · cases hg
  · exact absurd hr (hfrom _ fun _ hx => isTerminal_of_isPlain (isPlain_of_mem_rawRecords hx))

end

/-! ### Instructions that emit no FRAME -/

/-- From `s` to `t` no FRAME is emitted. -/
def NoFrame (s t : State) : Prop := ∃ rs, t.out = s.out ++ rs ∧ ∀ r ∈ rs, recordTag r ≠ 0x09

theorem NoFrame.ofSilent {s t : State} (h : t.out = s.out) : NoFrame s t :=
  ⟨[], by rw [h, List.append_nil], fun _ hr => absurd hr List.not_mem_nil⟩

theorem recordTag_of_not_terminal {r : Record} (h : isTerminal r = false) : recordTag r ≠ 0x09 := by
  obtain ⟨a, b, body⟩ := r
  cases body with
  | frame => cases h
  | _ => simp [recordTag, bodyTag]

/-- A close emits FRAME only when its scan finds an ordinary or extended frame start (46_window_output.md R110). -/
theorem closeWindow_noFrame_or (s : State) : NoFrame s (closeWindow s)
    ∨ ∃ k row, syncScan s = some ⟨k, row⟩ ∧ sopClass row.kind ≠ .reset := by
  have hpath : ∀ rs, (windowPath (afterWarnings s)).out = (afterWarnings s).out ++ rs →
      (∀ r ∈ rs, recordTag r ≠ 0x09) → NoFrame s (closeWindow s) := fun rs hout hrs => by
    refine ⟨windowWarnings s ++ rs ++ rawRecords s, ?_, List.forall_mem_append.2 ⟨List.forall_mem_append.2
      ⟨fun _ hr => recordTag_of_not_terminal (isTerminal_of_mem_windowWarnings hr), hrs⟩,
      fun _ hr => recordTag_of_not_terminal (isTerminal_of_isPlain (isPlain_of_mem_rawRecords hr))⟩⟩
    rw [closeWindow_out, closeWork_eq, hout, afterWarnings_eq]
    simp only [List.append_assoc]
  cases hs : syncScan s with
  | none =>
    refine .inl (hpath _ (by rw [windowPath_junk ((syncScan_afterWarnings s).trans hs), junkOutput_eq]) ?_)
    simp [recordTag, bodyTag]
  | some hit =>
    by_cases hclass : sopClass hit.row.kind = .reset
    · refine .inl (hpath _ (by
        rw [windowPath_reset ((syncScan_afterWarnings s).trans hs) hclass, resetOutput_eq]
        rfl) ?_)
      simp [recordTag, bodyTag]
    · exact .inr ⟨hit.off, hit.row, rfl, hclass⟩

theorem edgeStarted_out_cases (t : Sample) (l : Bool) (s : State) : (edgeStarted t l s).out = s.out
    ∨ s.win.isOpen = true ∧ (edgeStarted t l s).out = (closeWindow s).out := by
  rcases edgeStarted_cases t l s with ⟨-, h⟩ | ⟨-, -, h⟩ | ⟨-, -, -, h⟩ | ⟨-, ho, -, -, h⟩
    | ⟨-, -, -, -, h⟩ <;> rw [h]
  · exact .inl rfl
  · exact .inl (openWindow_out t l s)
  · exact .inl (setInputErr_out s)
  · exact .inr ⟨ho, openWindow_out t l _⟩
  · exact .inl (gapOp_recovery t s).out

theorem tickStarted_out_cases (t : Sample) (s : State) : (tickStarted t s).out = s.out
    ∨ s.win.isOpen = true ∧ (tickStarted t s).out = (closeWindow s).out := by
  rcases tickStarted_cases t s with ⟨-, h⟩ | ⟨-, -, h⟩ | ⟨ho, -, h⟩ | ⟨-, -, -, h⟩ <;> rw [h]
  · exact .inl rfl
  · exact .inl (setInputErr_out s)
  · exact .inr ⟨ho, forgetLevel_out _⟩
  · exact .inl rfl

/-- An event behind its guards: FATAL, or what the event does; before the start no window is open to close. -/
theorem guarded_noFrame_or {s : State} (hi : s.Inv) {t : Sample} {k : State → State}
    (hk : ∀ u : State, (k u).out = u.out ∨ u.win.isOpen = true ∧ (k u).out = (closeWindow u).out) :
    NoFrame s (unlessFatal (withStartCheck t k) s)
      ∨ s.win.isOpen = true ∧ (unlessFatal (withStartCheck t k) s).out = (closeWindow s).out := by
  rcases guarded_cases t k s with ⟨-, h⟩ | ⟨-, -, -, h⟩ | ⟨-, hs, -, h⟩ | ⟨-, -, h⟩ <;> rw [h]
  · exact .inl (.ofSilent rfl)
  · exact .inl ⟨_, rfl, by simp [recordTag, bodyTag]⟩
  · rcases hk (setStarted s) with hout | ⟨hopen, -⟩
    · exact .inl (.ofSilent hout)
    · obtain ⟨-, -, -, hopenInv, -, -⟩ := hi
      obtain ⟨hstarted, -⟩ := hopenInv hopen
      exact absurd (hs.symm.trans hstarted) (by decide)
  · exact (hk s).imp_left .ofSilent

/-- What an instruction emits: no FRAME, or the records of the close of the open window. -/
theorem exec_noFrame_or {i : Instr} {s t : State} (hi : s.Inv) (h : exec i s = .next t) :
    NoFrame s t ∨ s.win.isOpen = true ∧ t.out = (closeWindow s).out := by
  rcases exec_next_cases h with ⟨T, l, -, rfl⟩ | ⟨T, -, rfl⟩ | ⟨-, rfl⟩ | ⟨-, rfl⟩ | ⟨a, v, -, rfl⟩ | ⟨a, -, rfl⟩
    | ⟨-, -, r, c, rfl⟩
  · exact guarded_noFrame_or hi (edgeStarted_out_cases T l)
  · exact guarded_noFrame_or hi (tickStarted_out_cases T)
  · refine .inl (.ofSilent ?_)
    unfold unlessFatal
    split <;> rfl
  · refine .inl (.ofSilent ?_)
    unfold unlessFatal
    split <;> rfl
  · refine .inl (.ofSilent ?_)
    split <;> rfl
  · exact .inl (.ofSilent rfl)
  · exact .inl (.ofSilent rfl)

/-! ### The frame -/

theorem emitFrame_emitBitrate_out (u : State) : (emitBitrate (emitFrame u)).out = u.out
    ++ [⟨(frameRange u).1, (frameRange u).2, .frame (frameBody u)⟩,
      ⟨(frameRange u).1, (frameRange u).2, .bitrate (bitrate u)⟩] :=
  List.append_assoc u.out [_] [_]

/-- A close on the frame path whose parse ends in `u` and emits `parse` (46_window_output.md R110, R114). -/
theorem closeWindow_out_of_parse {s u : State} {k : Nat} {row : SopRow} {parse : List Record}
    (hscan : syncScan s = some ⟨k, row⟩) (hclass : sopClass row.kind ≠ .reset)
    (hu : afterTerminator (acceptedState s k row) = u) (hparse : u.out = (acceptedState s k row).out ++ parse) :
    (closeWindow s).out = s.out ++ framePathRecords s parse (frameRange u) (frameBody u) (bitrate u) := by
  have hpath := emitFrame_emitBitrate_out u
  rw [hparse, List.append_assoc, ← hu, ← frameOutput_eq] at hpath
  rw [closeWindow_out_framePath hscan hclass hpath, framePathRecords, hu]
  simp only [List.append_assoc]

/-- A FRAME tells the flags the parse has set, and `f_ovf` and the errors that the window was closed with
(46_window_output.md R118, R119). -/
theorem frameBody_tells {s u : State} {parse : List Record} (hovf : u.flags.ovf = s.flags.ovf) (hwin : u.win = s.win)
    (hflags : ∀ d, flagOf d u.flags = parse.any (isWarning d)) (rng : Sample × Sample) (bps : BitVec 64) :
    let f := frameBody u
    let rs := framePathRecords s parse rng f bps
    f.valid = !(f.fTrunc || f.fBadsym || f.fCrc || f.fNoeop || f.fOvf)
      ∧ f.fTrunc = rs.any (isWarning .truncatedFrame)
      ∧ f.fBadsym = rs.any (isWarning .badSymbol)
      ∧ f.fCrc = rs.any (isWarning .checksumMismatch)
      ∧ f.fNoeop = rs.any (isWarning .missingTerminator)
      ∧ f.fOvf = rs.any (isWarning .bufferOverflow)
      ∧ f.demodErrs = rs.countP (isWarning .demodulationError) := by
  intro f rs
  have hparse : ∀ d, d ≠ .demodulationError → d ≠ .bufferOverflow → flagOf d u.flags = rs.any (isWarning d) :=
    fun d hdemod hoverflow => by
      rw [any_framePathRecords hdemod, decide_eq_false hoverflow, Bool.and_false, Bool.false_or, hflags]
  refine ⟨rfl, hparse .truncatedFrame (by decide) (by decide), hparse .badSymbol (by decide) (by decide),
    hparse .checksumMismatch (by decide) (by decide), hparse .missingTerminator (by decide) (by decide), ?_, ?_⟩
  · rw [any_framePathRecords (by decide), ← hflags]
    exact hovf.trans (by simp [flagOf])
  · rw [countP_framePathRecords (hflags _).symm]
    exact congrArg (fun w : WindowState => w.demodErrs.length) hwin

/-- Settles O46: only a close on the frame path emits a FRAME. Its parse begins with the flags clear and sets each where
it raises the flag's warning. -/
theorem frameFlagsTellItsWarnings : Obligations.FrameFlagsTellItsWarnings := by
  intro s t i rs r f hi hexec hout hr hf
  have hframe : ¬ NoFrame s t := by
    rintro ⟨rs', hout', hrs'⟩
    refine hrs' r (List.append_cancel_left (hout.symm.trans hout') ▸ hr) ?_
    rw [recordTag, hf]
    rfl
  obtain ⟨hopen, hclose⟩ := (exec_noFrame_or hi hexec).resolve_left hframe
  rw [NoFrame, hclose] at hframe
  obtain ⟨k, row, hscan, hclass⟩ := (closeWindow_noFrame_or s).resolve_left hframe
  obtain ⟨parse, hparse, hflags, hterm⟩ := afterTerminator_flagFrame (acceptedState s k row)
  have hwork := afterTerminator_frame (acceptedState s k row)
  generalize hu : afterTerminator (acceptedState s k row) = u at hparse hflags hwork
  obtain rfl : rs = framePathRecords s parse (frameRange u) (frameBody u) (bitrate u) :=
    List.append_cancel_left ((hout.symm.trans hclose).trans (closeWindow_out_of_parse hscan hclass hu hparse))
  obtain rfl := eq_of_frame_mem_framePathRecords hterm hr hf
  have hclear : ∀ d, flagOf d s.flags = false := fun d => by
    rw [hi.flags_eq hopen]
    cases d <;> rfl
  exact frameBody_tells hwork.ovf hwork.win (fun d => by rw [hflags]; exact congrArg (· || _) (hclear d)) _ _

end Sys2Proof.Machine
end

section
/-! PROOFS. The three paths of a closed window (46_window_output.md R112, R113, R120, R123): the records of a close on
the junk path and on the reset path, the one terminal record of each path, and the BITRATE after a FRAME. -/

namespace Sys2Proof.Machine

/-! ### The records of a close, path by path -/

/-- A close emits the warnings, the records of its path and RAWBITS (46_window_output.md R110). -/
theorem closeWindow_out_of_path {s : State} {rs : List Record}
    (hpath : (windowPath (afterWarnings s)).out = (afterWarnings s).out ++ rs) :
    (closeWindow s).out = s.out ++ windowWarnings s ++ rs ++ rawRecords s := by
  rw [closeWindow_out, closeWork_eq, hpath, afterWarnings_eq]

theorem closeWindow_out_junk {s : State} (hscan : syncScan s = none) :
    (closeWindow s).out = s.out ++ windowWarnings s
      ++ [⟨s.win.firstT, s.win.prevT, .junk (nbits s) s.flags.ovf⟩,
          ⟨s.win.firstT, s.win.prevT, .warning 2 15 0 0 0⟩]
      ++ rawRecords s :=
  closeWindow_out_of_path (by
    rw [windowPath_junk ((syncScan_afterWarnings s).trans hscan), junkOutput_eq, afterWarnings_eq]
    rfl)

theorem closeWindow_out_reset {s : State} {k : Nat} {r : SopRow} (hscan : syncScan s = some ⟨k, r⟩)
    (hclass : sopClass r.kind = .reset) :
    (closeWindow s).out = s.out ++ windowWarnings s
      ++ [⟨bitStart s k, bitEnd s (k + 19),
          .reset r.kind (BitVec.ofNat 3 (rowMatches s.build (candidateAt s k) r)) (nbits s)⟩]
      ++ rawRecords s :=
  closeWindow_out_of_path (by
    rw [windowPath_reset ((syncScan_afterWarnings s).trans hscan) hclass, resetOutput_eq, afterWarnings_eq]
    rfl)

/-- A close on the frame path: a parse that emits no terminal record and leaves the window and the configuration
alone, then FRAME and BITRATE (46_window_output.md R114). -/
theorem closeWindow_out_frame {s : State} {k : Nat} {row : SopRow} (hscan : syncScan s = some ⟨k, row⟩)
    (hclass : sopClass row.kind ≠ .reset) :
    ∃ u parse, u.win = s.win ∧ u.cfg = s.cfg ∧ (∀ r ∈ parse, isTerminal r = false)
      ∧ (closeWindow s).out = s.out ++ windowWarnings s
        ++ (parse ++ [⟨(frameRange u).1, (frameRange u).2, .frame (frameBody u)⟩,
          ⟨(frameRange u).1, (frameRange u).2, .bitrate (bitrate u)⟩])
        ++ rawRecords s := by
  have hwork := afterTerminator_frame (acceptedState s k row)
  obtain ⟨parse, hparse, -, hterm⟩ := afterTerminator_flagFrame (acceptedState s k row)
  refine ⟨_, parse, hwork.win, hwork.cfg, hterm, closeWindow_out_framePath hscan hclass ?_⟩
  rw [frameOutput_eq, emitFrame_emitBitrate_out, hparse, List.append_assoc]

/-! ### The junk path -/

/-- A started block with a valid configuration has a threshold of at most 4 (10_state.md R19, R20). -/
theorem State.Inv.sopMinMatch_le {s : State} (hi : s.Inv) (hdec : s.Decoding) : s.cfg.sopMinMatch.toNat ≤ 4 := by
  obtain ⟨-, ⟨-, -, hvalid, -⟩, -⟩ := hi
  obtain ⟨-, hstarted, -⟩ := hdec
  obtain ⟨-, -, -, -, -, -, hle⟩ := (configurationIsValidExactlyWhen s.cfg).1 (hvalid hstarted)
  exact hle

/-- CHOOSE accepts no candidate that falls short of a threshold of at most 4 with every row (43_frame_sync.md R87). -/
theorem choose_eq_none {b : Build} {k : BitVec 3} {p : Candidate} (hk : k.toNat ≤ 4)
    (h : ∀ r ∈ b.sopTable, rowMatches b p r < k.toNat) : choose b k p = none := by
  refine Option.eq_none_iff_forall_ne_some.2 fun r hr => ?_
  obtain ⟨hmem, hmatch⟩ := choose_some hr
  have := h r hmem
  omega

/-- Settles O42: no candidate is accepted, so the scan finds none and the close takes the junk path. -/
theorem junkWindowIsReported : Obligations.JunkWindowIsReported := by
  intro s i hi hcloses hshort
  obtain ⟨t, hexec, hout⟩ := hcloses.exec_out
  have hscan : syncScan s = none :=
    syncScan_eq_none_iff.2 fun k hk => choose_eq_none (hi.sopMinMatch_le hcloses.1) (hshort k hk)
  exact ⟨t, hexec, hout.trans (closeWindow_out_junk hscan)⟩

/-! ### The reset path -/

/-- Settles O43: the scan stops at the candidate, and its row is of class RESET. -/
theorem resetWindowIsReported : Obligations.ResetWindowIsReported := by
  intro s i k r _ hcloses hfits hbefore hchoose hkind
  obtain ⟨t, hexec, hout⟩ := hcloses.exec_out
  have hclass : sopClass r.kind = .reset := by rcases hkind with h | h <;> rw [h] <;> rfl
  have hscan : syncScan s = some ⟨k, r⟩ := syncScan_eq_some_iff.2 ⟨hfits, hchoose, hbefore⟩
  exact ⟨t, hexec, hout.trans (closeWindow_out_reset hscan hclass)⟩

/-! ### The terminal record -/

theorem filter_isTerminal_eq_nil {rs : List Record} (h : ∀ r ∈ rs, isTerminal r = false) :
    rs.filter isTerminal = [] :=
  List.filter_eq_nil_iff.2 fun r hr => by rw [h r hr]; decide

theorem terminalTag_junk {s : State} (hscan : syncScan s = none) : terminalTag s = 0x0B := by
  unfold terminalTag
  simp only [hscan]

theorem terminalTag_reset {s : State} {hit : SyncHit} (hscan : syncScan s = some hit)
    (hclass : sopClass hit.row.kind = .reset) : terminalTag s = 0x0A := by
  unfold terminalTag
  simp only [hscan, if_pos hclass]

theorem terminalTag_frame {s : State} {hit : SyncHit} (hscan : syncScan s = some hit)
    (hclass : sopClass hit.row.kind ≠ .reset) : terminalTag s = 0x09 := by
  unfold terminalTag
  simp only [hscan, if_neg hclass]

/-- The warnings and RAWBITS are no terminal records: those of a close are those of its path. -/
theorem terminal_of_path {s : State} {rs : List Record}
    (hout : (closeWindow s).out = s.out ++ windowWarnings s ++ rs ++ rawRecords s)
    (hpath : (rs.filter isTerminal).map recordTag = [terminalTag s]) :
    ∃ rs, (closeWindow s).out = s.out ++ rs ∧ (rs.filter isTerminal).map recordTag = [terminalTag s] := by
  have hwarnings := filter_isTerminal_eq_nil fun _ => isTerminal_of_mem_windowWarnings (s := s)
  have hraw := filter_isTerminal_eq_nil fun _ hr => isTerminal_of_isPlain (isPlain_of_mem_rawRecords (s := s) hr)
  refine ⟨windowWarnings s ++ rs ++ rawRecords s, by simp only [hout, List.append_assoc], ?_⟩
  rw [List.filter_append, List.filter_append, hwarnings, hraw, List.nil_append, List.append_nil, hpath]

/-- A close emits one terminal record, by the path its scan decides (46_window_output.md R123). -/
theorem closeWindow_one_terminal (s : State) : ∃ rs, (closeWindow s).out = s.out ++ rs
    ∧ (rs.filter isTerminal).map recordTag = [terminalTag s] := by
  cases hscan : syncScan s with
  | none => exact terminal_of_path (closeWindow_out_junk hscan) (by rw [terminalTag_junk hscan]; rfl)
  | some hit =>
    by_cases hclass : sopClass hit.row.kind = .reset
    · exact terminal_of_path (closeWindow_out_reset hscan hclass) (by rw [terminalTag_reset hscan hclass]; rfl)
    · obtain ⟨u, parse, -, -, hterm, hout⟩ := closeWindow_out_frame hscan hclass
      refine terminal_of_path hout ?_
      rw [terminalTag_frame hscan hclass, List.filter_append, filter_isTerminal_eq_nil hterm]
      rfl

/-- EOS drops the window with no record (40_input_events.md R64). -/
theorem exec_eos_out {s t : State} (h : exec .eos s = .next t) : t.out = s.out := by
  cases hfatal : s.status.fatal with
  | true =>
    cases (exec_event_stopped (i := .eos) trivial hfatal).symm.trans h
    rfl
  | false =>
    cases (exec_eos_running hfatal).symm.trans h
    rfl

/-- Settles O44: the terminal record of each path, and none for a window that EOS drops. -/
theorem everyClosedWindowHasOneTerminalRecord : Obligations.EveryClosedWindowHasOneTerminalRecord := by
  refine ⟨fun s i hcloses => ?_, fun _ _ => exec_eos_out⟩
  obtain ⟨t, hexec, hout⟩ := hcloses.exec_out
  obtain ⟨rs, hclose, htag⟩ := closeWindow_one_terminal s
  exact ⟨t, rs, hexec, hout.trans hclose, htag⟩

/-! ### FRAME and BITRATE -/

/-- The tag FRAME says that the close takes the frame path. -/
theorem framePath_of_terminalTag {s : State} (h : terminalTag s = 0x09) :
    ∃ k row, syncScan s = some ⟨k, row⟩ ∧ sopClass row.kind ≠ .reset := by
  cases hscan : syncScan s with
  | none => exact absurd ((terminalTag_junk hscan).symm.trans h) (by decide)
  | some hit =>
    exact ⟨hit.off, hit.row, rfl, fun hclass => absurd ((terminalTag_reset hscan hclass).symm.trans h) (by decide)⟩

/-- Every bit takes at least one sample of the edge span (41_bit_recovery.md R77 (d)). -/
theorem State.Inv.nbits_le_span {s : State} (hi : s.Inv) (ho : s.win.isOpen = true) :
    nbits s ≤ s.win.prevT.toNat - s.win.firstT.toNat := by
  have hw := hi.ordered ho
  have hlen := Memory.length_le _ _ hw.bits
  have hend := BitVec.le_def.1 hw.bitsEnd
  rw [nbits]
  omega

/-- With no more bits than samples the exact quotient is at most SAMPLE_RATE, and so fits its 64 bits
(46_window_output.md R120). -/
theorem bitrate_bounds {s : State} (hspan : s.win.firstT < s.win.prevT)
    (hbits : nbits s ≤ s.win.prevT.toNat - s.win.firstT.toNat) :
    (bitrate s).toNat = s.cfg.sampleRate.toNat * nbits s / (s.win.prevT.toNat - s.win.firstT.toNat)
      ∧ bitrate s ≤ s.cfg.sampleRate := by
  have hle : s.cfg.sampleRate.toNat * nbits s / (s.win.prevT.toNat - s.win.firstT.toNat)
      ≤ s.cfg.sampleRate.toNat := Nat.div_le_of_le_mul (by
    rw [Nat.mul_comm]
    exact Nat.mul_le_mul_right _ hbits)
  have hvalue : (bitrate s).toNat =
      s.cfg.sampleRate.toNat * nbits s / (s.win.prevT.toNat - s.win.firstT.toNat) := by
    rw [bitrate_eq hspan, BitVec.toNat_ofNat, Nat.mod_eq_of_lt (Nat.lt_of_le_of_lt hle s.cfg.sampleRate.isLt)]
  exact ⟨hvalue, BitVec.le_def.2 (hvalue ▸ hle)⟩

/-- Settles O47: the frame path ends in FRAME and BITRATE over one range, and a window with a frame start in it holds
at most one bit a sample. -/
theorem frameIsFollowedByItsBitrate : Obligations.FrameIsFollowedByItsBitrate := by
  intro s i hi hcloses htag
  obtain ⟨⟨-, -, hopen⟩, -⟩ := id hcloses
  obtain ⟨t, hexec, hout⟩ := hcloses.exec_out
  obtain ⟨k, row, hscan, hclass⟩ := framePath_of_terminalTag htag
  obtain ⟨u, parse, hwin, hcfg, -, hclose⟩ := closeWindow_out_frame hscan hclass
  have hnbits : nbits u = nbits s := by rw [nbits, nbits, hwin]
  have hfits := syncScan_fits hscan
  have hspan := hi.firstT_lt_prevT hopen (by omega)
  have hrate := bitrate_bounds (s := u) (by rw [hwin]; exact hspan)
    (by rw [hnbits, hwin]; exact hi.nbits_le_span hopen)
  rw [hnbits, hwin, hcfg] at hrate
  exact ⟨t, _, parse, frameRange u, frameBody u, bitrate u, hexec,
    hout.trans (by simp only [hclose, List.append_assoc]), rfl, hnbits, hspan, hrate⟩

end Sys2Proof.Machine
end

section
/-! PROOFS. What a run depends on (46_window_output.md R125 (a)): no instruction reads the output or what the host
presents. A run behind other records appends to them what it emits without them. -/

namespace Sys2Proof.Machine

/-- The state `s` behind a history: the records `pre` emitted before the last reset and before its own, and `queue`
presented. -/
def State.behind (s : State) (pre : List Record) (queue : List Input) : State :=
  { s with out := pre ++ s.out, outBase := pre.length + s.outBase, pending := queue }

theorem outSinceReset_behind (s : State) (pre : List Record) (queue : List Input) :
    outSinceReset (s.behind pre queue) = outSinceReset s := by
  simp [outSinceReset, State.behind, List.drop_append]

/-- Reset is the same state of the build behind any history (70_reset_and_hazards.md R149, 10_state.md R31). -/
theorem doReset_eq_behind (s : State) :
    doReset s = { State.reset with build := s.build }.behind s.out s.pending := by
  simp [doReset, State.behind, State.reset]

/-- An operation that does the same behind every history. -/
def Blind (f : State → State) : Prop :=
  ∀ (s : State) (pre : List Record) (queue : List Input), f (s.behind pre queue) = (f s).behind pre queue

theorem Blind.comp {f g : State → State} (hf : Blind f) (hg : Blind g) : Blind fun s => f (g s) :=
  fun s pre queue => (congrArg f (hg s pre queue)).trans (hf (g s) pre queue)

/-- A choice by what no history changes. -/
theorem Blind.ite {f g : State → State} {p : State → Prop} [∀ s, Decidable (p s)] (hf : Blind f) (hg : Blind g)
    (hp : ∀ s pre queue, p (s.behind pre queue) ↔ p s) : Blind fun s => if p s then f s else g s :=
  fun s pre queue => by
    simp only [hp]
    split
    · exact hf s pre queue
    · exact hg s pre queue

theorem blind_id : Blind fun s => s := fun _ _ _ => rfl

theorem emit_behind (r : Record) (s : State) (pre : List Record) (queue : List Input) :
    emit r (s.behind pre queue) = (emit r s).behind pre queue := by
  simp [emit, State.behind]

/-! ### The parser -/

section
variable (g : BitVec 4) (pos k n w : Nat)

theorem emitSymbol_blind : Blind (emitSymbol g pos k) := fun s _ _ => emit_behind _ s _ _

theorem noteBadSymbol_blind : Blind (noteBadSymbol g pos k) :=
  .ite (fun s _ _ => emit_behind _ (setBadsym s) _ _) blind_id fun _ _ _ => .rfl

theorem noteNondata_blind : Blind (noteNondata g k) :=
  .ite (fun _ _ _ => rfl) blind_id fun _ _ _ => .rfl

theorem groupSymbol_blind : Blind (groupSymbol g pos k) :=
  (noteNondata_blind g k).comp ((noteBadSymbol_blind g pos k).comp (emitSymbol_blind g pos k))

theorem groupSymbols_behind (pre : List Record) (queue : List Input) : ∀ (j : Nat) (v : Word32) (s : State),
    groupSymbols g n j v (s.behind pre queue) =
      ((groupSymbols g n j v s).1, (groupSymbols g n j v s).2.behind pre queue) := by
  induction n with
  | zero => exact fun _ _ _ => rfl
  | succ n ih =>
    intro j v s
    have hsymbol := groupSymbol_blind g j (s.par.idx + 5 * j) s pre queue
    exact (congrArg (groupSymbols g n (j + 1) _) hsymbol).trans (ih _ _ _)

/-- GROUP answers the same value, or TRUNCATED, behind every history. -/
theorem group_behind (s : State) (pre : List Record) (queue : List Input) :
    group n g (s.behind pre queue) = ((group n g s).1, (group n g s).2.behind pre queue) := by
  have hbits : nbits (s.behind pre queue) = nbits s := rfl
  have hpar : (s.behind pre queue).par = s.par := rfl
  unfold group
  rw [groupSymbols_behind, hbits, hpar]
  split <;> rfl

theorem truncatedGroup_blind (body : Body) : Blind (truncatedGroup g body) := fun s pre queue =>
  (congrArg (raise _ _ _ _ _ _) (emit_behind _ (setTrunc s) pre queue)).trans (emit_behind _ _ _ _)

theorem emitGroupRecord_blind (body : Body) : Blind (emitGroupRecord n body) := fun s _ _ => emit_behind _ s _ _

theorem parseHeader_blind : Blind parseHeader := fun s pre queue => by
  unfold parseHeader
  rw [group_behind]
  rcases group 4 groupHeader s with ⟨_ | v, u⟩
  · exact congrArg (setPhase .payload) (truncatedGroup_blind _ _ (setHeader _ u) _ _)
  · exact congrArg (setPhase .payload) (emitGroupRecord_blind _ _ (setHeader _ u) _ _)

theorem parseWord_blind : Blind (parseWord w) := fun s pre queue => by
  unfold parseWord
  rw [group_behind]
  rcases group 8 (groupWord w) s with ⟨_ | v, u⟩
  · exact truncatedGroup_blind _ _ (pushWord _ u) _ _
  · exact emitGroupRecord_blind _ _ (pushWord _ u) _ _

theorem parseWords_blind : ∀ w, Blind (parseWords n w) := by
  induction n with
  | zero => exact fun _ => blind_id
  | succ n ih => exact fun w => (ih (w + 1)).comp (parseWord_blind w)

theorem parsePayload_blind : Blind parsePayload := fun s pre queue =>
  congrArg (setPhase .crc) (parseWords_blind s.par.count.toNat 0 (clearWords s) pre queue)

theorem parseTrailerGroup_blind : Blind parseTrailerGroup := fun s pre queue => by
  have hbegin : beginTrailer (s.behind pre queue) = (beginTrailer s).behind pre queue := rfl
  unfold parseTrailerGroup
  rw [hbegin, group_behind]
  rcases group 8 groupTrailer (beginTrailer s) with ⟨_ | v, u⟩
  · exact truncatedGroup_blind _ _ (setCrcRx _ u) _ _
  · exact emitGroupRecord_blind _ _ (setCrcRx _ u) _ _

theorem compareCrc_blind : Blind compareCrc :=
  .ite (fun s _ _ => emit_behind _ (setCrcFlag s) _ _) blind_id fun _ _ _ => .rfl

theorem parseTrailer_blind : Blind parseTrailer := fun s pre queue => by
  unfold parseTrailer
  rw [parseTrailerGroup_blind]
  exact congrArg (setPhase .eop) (compareCrc_blind (computeCrc (parseTrailerGroup s)) pre queue)

theorem missingTerminator_blind (s : State) (rng : Sample × Sample) (pre : List Record) (queue : List Input) :
    missingTerminator rng (s.behind pre queue) = (missingTerminator rng s).behind pre queue :=
  emit_behind _ (setNoeop s) pre queue

theorem parseTerminator_blind : Blind parseTerminator :=
  .ite (.ite
      (fun s pre queue => congrArg (setIdx _)
        ((congrArg (emit _) (emitSymbol_blind _ _ _ s pre queue)).trans (emit_behind _ _ _ _)))
      (fun s pre queue => (congrArg (missingTerminator _) (emitSymbol_blind _ _ _ s pre queue)).trans
        (missingTerminator_blind _ _ _ _))
      fun _ _ _ => .rfl)
    (fun s _ _ => missingTerminator_blind s _ _ _) fun _ _ _ => .rfl

end

/-! ### The close -/

theorem emitPreamble_blind : Blind emitPreamble :=
  .ite (fun s _ _ => emit_behind _ s _ _) blind_id fun _ _ _ => .rfl

/-- Each of the four symbols stands at an index read from `sop_off`. -/
theorem emitSopSymbols_blind : Blind emitSopSymbols := fun s pre queue => by
  have hbehind : (s.behind pre queue).par = s.par := rfl
  unfold emitSopSymbols
  simp only [hbehind, emitSymbol_blind _ _ _ _ pre queue]

theorem emitSop_blind : Blind emitSop := fun s _ _ => emit_behind _ s _ _
theorem enterParser_blind : Blind enterParser := fun _ _ _ => rfl
theorem emitFrame_blind : Blind emitFrame := fun s _ _ => emit_behind _ s _ _
theorem emitBitrate_blind : Blind emitBitrate := fun s _ _ => emit_behind _ s _ _

theorem afterTerminator_blind : Blind afterTerminator :=
  parseTerminator_blind.comp <| parseTrailer_blind.comp <| parsePayload_blind.comp <| parseHeader_blind.comp <|
    enterParser_blind.comp <| emitSop_blind.comp <| emitSopSymbols_blind.comp emitPreamble_blind

theorem frameOutput_blind : Blind frameOutput :=
  emitBitrate_blind.comp (emitFrame_blind.comp afterTerminator_blind)

theorem junkOutput_blind : Blind junkOutput := fun s pre queue =>
  (congrArg (emit _) (emit_behind _ s pre queue)).trans (emit_behind _ _ _ _)

theorem resetOutput_blind : Blind resetOutput := fun s _ _ => emit_behind _ s _ _

theorem windowPath_blind : Blind windowPath := fun s pre queue => by
  have hscan : syncScan (s.behind pre queue) = syncScan s := syncScan_of_bits rfl rfl rfl
  cases hs : syncScan s with
  | none =>
    rw [windowPath_junk hs, windowPath_junk (hscan.trans hs)]
    exact junkOutput_blind s pre queue
  | some hit =>
    by_cases hclass : sopClass hit.row.kind = .reset
    · rw [windowPath_reset hs hclass, windowPath_reset (hscan.trans hs) hclass]
      exact resetOutput_blind (acceptHit hit s) pre queue
    · rw [windowPath_frame_path hs hclass, windowPath_frame_path (hscan.trans hs) hclass]
      exact frameOutput_blind (acceptHit hit s) pre queue

theorem afterWarnings_blind : Blind afterWarnings := fun s pre queue => by
  simp only [afterWarnings_eq, State.behind, List.append_assoc]
  rfl

theorem dumpRawBits_blind : Blind dumpRawBits :=
  .ite (fun s _ _ => emit_behind _ s _ _) blind_id fun _ _ _ => .rfl

theorem closeWindow_blind : Blind closeWindow := fun s pre queue =>
  congrArg (fun u => setPhase .demodulating (clearWindow u))
    ((dumpRawBits_blind.comp (windowPath_blind.comp afterWarnings_blind)) s pre queue)

/-! ### The instructions -/

theorem memAppend_blind (b : BitRecord) : Blind (memAppend b) :=
  .ite (fun _ _ _ => rfl) (fun _ _ _ => rfl) fun _ _ _ => .rfl

theorem shortGap_blind (t : Sample) : Blind (shortGap t) :=
  .ite (fun s _ _ => congrArg clearHalf (memAppend_blind _ s _ _)) (fun _ _ _ => rfl) fun _ _ _ => .rfl

theorem longGap_blind (t : Sample) : Blind (longGap t) :=
  .ite (fun s _ _ => congrArg clearHalf (memAppend_blind _ (addDemodErr _ _ s) _ _))
    (fun s _ _ => memAppend_blind _ s _ _) fun _ _ _ => .rfl

theorem badGap_blind (t : Sample) : Blind (badGap t) := fun s _ _ =>
  congrArg clearHalf (memAppend_blind _ (addDemodErr _ _ s) _ _)

theorem edgeGap_blind (t : Sample) (l : Bool) : Blind (edgeGap t l) := fun s pre queue => by
  have hclass : gapClass (s.behind pre queue).cfg (t - (s.behind pre queue).win.prevT) =
      gapClass s.cfg (t - s.win.prevT) := rfl
  unfold edgeGap
  rw [hclass]
  cases gapClass s.cfg (t - s.win.prevT) with
  | idle => exact congrArg (openWindow t l) (closeWindow_blind s pre queue)
  | short => exact congrArg (advanceEdge t l) (shortGap_blind t s pre queue)
  | long => exact congrArg (advanceEdge t l) (longGap_blind t s pre queue)
  | badLow => exact congrArg (advanceEdge t l) (badGap_blind t s pre queue)
  | badHigh => exact congrArg (advanceEdge t l) (badGap_blind t s pre queue)

theorem edgeStarted_blind (t : Sample) (l : Bool) : Blind (edgeStarted t l) :=
  .ite blind_id (.ite (fun _ _ _ => rfl) (.ite (fun _ _ _ => rfl) (edgeGap_blind t l) fun _ _ _ => .rfl)
    fun _ _ _ => .rfl) fun _ _ _ => .rfl

theorem tickStarted_blind (t : Sample) : Blind (tickStarted t) :=
  .ite blind_id (.ite (fun _ _ _ => rfl) (.ite (fun s pre queue => congrArg forgetLevel (closeWindow_blind s pre queue))
    blind_id fun _ _ _ => .rfl) fun _ _ _ => .rfl) fun _ _ _ => .rfl

theorem unlessFatal_blind {k : State → State} (hk : Blind k) : Blind (unlessFatal k) :=
  .ite blind_id hk fun _ _ _ => .rfl

theorem withStartCheck_blind {k : State → State} (hk : Blind k) (t : Sample) : Blind (withStartCheck t k) :=
  .ite hk (.ite (fun s => hk (setStarted s)) (fun s _ _ => emit_behind _ { s with status := _ } _ _) fun _ _ _ => .rfl)
    fun _ _ _ => .rfl

/-- No register of the configuration port shows the history. -/
theorem readCfg_behind (r : CfgReg) (s : State) (pre : List Record) (queue : List Input) :
    readCfg r (s.behind pre queue) = readCfg r s := by
  cases r <;> rfl

/-- Every instruction does the same behind every history. -/
theorem exec_behind {i : Instr} {s t : State} (h : exec i s = .next t) (pre : List Record) (queue : List Input) :
    exec i (s.behind pre queue) = .next (t.behind pre queue) := by
  cases i with
  | edge T l =>
    cases h
    exact congrArg Host.Outcome.next (unlessFatal_blind (withStartCheck_blind (edgeStarted_blind T l) T) s pre queue)
  | tick T =>
    cases h
    exact congrArg Host.Outcome.next (unlessFatal_blind (withStartCheck_blind (tickStarted_blind T) T) s pre queue)
  | eos =>
    cases h
    exact congrArg Host.Outcome.next
      (unlessFatal_blind (k := fun s => forgetLevel (clearWindow s)) (fun _ _ _ => rfl) s pre queue)
  | rsvd =>
    cases h
    exact congrArg Host.Outcome.next (unlessFatal_blind (k := setBadev) (fun _ _ _ => rfl) s pre queue)
  | cfgw a v =>
    have hcfgw : Blind fun s => if s.status.started then s else { s with cfg := writeCfg (cfgRegAt a) v s.cfg } :=
      .ite blind_id (fun _ _ _ => rfl) fun _ _ _ => .rfl
    cases h
    exact congrArg Host.Outcome.next (hcfgw s pre queue)
  | cfgr a =>
    cases h
    exact congrArg (fun v => Host.Outcome.next { s.behind pre queue with rdata := v })
      (readCfg_behind (cfgRegAt a) s pre queue)
  | _ =>
    cases h
    rfl

/-! ### Runs -/

/-- No run faults and none is refused. -/
theorem runInstrs_is_next (is : List Instr) : ∀ s, ∃ t, runInstrs is s = .next t := by
  induction is with
  | nil => exact fun s => ⟨s, rfl⟩
  | cons i is ih =>
    intro s
    obtain ⟨u, hu⟩ := exec_is_next i s
    rw [runInstrs_cons hu]
    exact ih u

theorem runInstrs_behind (pre : List Record) (queue : List Input) (is : List Instr) : ∀ {s t : State},
    runInstrs is s = .next t → runInstrs is (s.behind pre queue) = .next (t.behind pre queue) := by
  induction is with
  | nil =>
    intro s t h
    cases h
    rfl
  | cons i is ih =>
    intro s t h
    obtain ⟨u, hu⟩ := exec_is_next i s
    rw [runInstrs_cons hu] at h
    rw [runInstrs_cons (exec_behind hu pre queue), ih h]

/-- Settles O58: both runs start from the reset state of the one build, each behind its own history, so each is the run
from that state, behind the same history. -/
theorem sameEventsSameOutput : Obligations.SameEventsSameOutput := by
  intro s t is hbuild
  obtain ⟨u, hu⟩ := runInstrs_is_next is { State.reset with build := s.build }
  refine ⟨u.behind s.out s.pending, u.behind t.out t.pending, ?_, ?_, ?_⟩
  · rw [doReset_eq_behind, runInstrs_behind _ _ _ hu]
  · rw [doReset_eq_behind, ← hbuild, runInstrs_behind _ _ _ hu]
  · rw [outSinceReset_behind, outSinceReset_behind]

end Sys2Proof.Machine
end

section
/-! PROOFS. No instruction reads a register that 10_state.md R34 calls unspecified: the frame path writes every parser
register before it reads it, and every other operation takes states that agree to states that agree. -/

namespace Sys2Proof.Machine

/-! ### The parser registers not yet written, at each stage of the frame path

`crc_nondata` is masked with 1: before the trailer begins a symbol can only set it. -/

/-- Before the parser starts (43_frame_sync.md R90): all but what SYNC writes (R86). -/
def ParserRegs.maskStart (q : ParserRegs) : ParserRegs :=
  { q with idx := 0, hdr := 0, count := 0, words := [], crcStart := 0, crcRx := 0, crcNondata := true, crcCalc := 0 }

/-- Before the header (44_frame_parser.md R96). -/
def ParserRegs.maskHeader (q : ParserRegs) : ParserRegs :=
  { q with hdr := 0, count := 0, words := [], crcStart := 0, crcRx := 0, crcNondata := true, crcCalc := 0 }

/-- Before the first data word (R98). -/
def ParserRegs.maskWords (q : ParserRegs) : ParserRegs :=
  { q with words := [], crcStart := 0, crcRx := 0, crcNondata := true, crcCalc := 0 }

/-- Before the trailer begins (R99). -/
def ParserRegs.maskTrailer (q : ParserRegs) : ParserRegs :=
  { q with crcStart := 0, crcRx := 0, crcNondata := true, crcCalc := 0 }

/-- Inside the trailer. -/
def ParserRegs.maskTrailerValue (q : ParserRegs) : ParserRegs := { q with crcRx := 0, crcCalc := 0 }

/-- Before the check (45_checksum.md R105). -/
def ParserRegs.maskCalc (q : ParserRegs) : ParserRegs := { q with crcCalc := 0 }

/-- The state with what the frame path does not read set to fixed values, parser registers as `mask` says. -/
def State.masked (s : State) (base : Nat) (mask : ParserRegs → ParserRegs) : State :=
  { s with
    win := { s.win with halfStart := 0 }
    par := mask s.par
    outBase := base
    rdata := 0
    symdecOut := ⟨0, 0⟩
    chooseOut := none }

/-- The writes of a group's symbols go past the mask. -/
structure GroupMask (mask : ParserRegs → ParserRegs) : Prop where
  idx : ∀ k q, mask { q with idx := k } = { mask q with idx := k }
  nondata : ∀ q, mask { q with crcNondata := true } = { mask q with crcNondata := true }

theorem GroupMask.idx_eq {mask : ParserRegs → ParserRegs} (hm : GroupMask mask) (q : ParserRegs) :
    (mask q).idx = q.idx := by
  have h : mask q = { mask q with idx := q.idx } := hm.idx q.idx q
  rw [h]

theorem range_masked (s : State) (base : Nat) (mask : ParserRegs → ParserRegs) (a b : Nat) :
    range (s.masked base mask) a b = range s a b := rfl

theorem emit_masked (r : Record) (s : State) (base : Nat) (mask : ParserRegs → ParserRegs) :
    emit r (s.masked base mask) = (emit r s).masked base mask := rfl

theorem emitSymbol_masked (g : BitVec 4) (pos k : Nat) (s : State) (base : Nat) (mask : ParserRegs → ParserRegs) :
    emitSymbol g pos k (s.masked base mask) = (emitSymbol g pos k s).masked base mask := rfl

theorem setPhase_masked (p : Phase) (s : State) (base : Nat) (mask : ParserRegs → ParserRegs) :
    setPhase p (s.masked base mask) = (setPhase p s).masked base mask := rfl

theorem setIdx_masked {mask : ParserRegs → ParserRegs} (hm : GroupMask mask) (k : Nat) (s : State) (base : Nat) :
    setIdx k (s.masked base mask) = (setIdx k s).masked base mask :=
  congrArg (fun q => { s.masked base mask with par := q }) (hm.idx k s.par).symm

/-! ### A group -/

section
variable {mask : ParserRegs → ParserRegs} (hm : GroupMask mask) (g : BitVec 4) (n base : Nat)
include hm

theorem groupSymbol_masked (pos k : Nat) (s : State) :
    groupSymbol g pos k (s.masked base mask) = (groupSymbol g pos k s).masked base mask := by
  have hbad : noteBadSymbol g pos k (emitSymbol g pos k (s.masked base mask)) =
      (noteBadSymbol g pos k (emitSymbol g pos k s)).masked base mask := by
    unfold noteBadSymbol
    rw [apply_ite (State.masked · base mask)]
    rfl
  have hnondata : ∀ u : State, noteNondata g k (u.masked base mask) = (noteNondata g k u).masked base mask := by
    intro u
    have hset : setNondata (u.masked base mask) = (setNondata u).masked base mask :=
      congrArg (fun q => { u.masked base mask with par := q }) (hm.nondata u.par).symm
    unfold noteNondata
    rw [apply_ite (State.masked · base mask), hset]
    rfl
  rw [groupSymbol, hbad, hnondata, groupSymbol]

theorem groupSymbols_masked : ∀ (j : Nat) (v : Word32) (s : State), groupSymbols g n j v (s.masked base mask) =
    ((groupSymbols g n j v s).1, (groupSymbols g n j v s).2.masked base mask) := by
  induction n with
  | zero => exact fun _ _ _ => rfl
  | succ n ih =>
    intro j v s
    have hidx : (s.masked base mask).par.idx = s.par.idx := hm.idx_eq s.par
    rw [groupSymbols, hidx, groupSymbol_masked hm, ih]
    rfl

theorem group_masked (s : State) : group n g (s.masked base mask) =
    ((group n g s).1, (group n g s).2.masked base mask) := by
  have hidx : (s.masked base mask).par.idx = s.par.idx := hm.idx_eq s.par
  have hbits : nbits (s.masked base mask) = nbits s := rfl
  unfold group
  dsimp only
  rw [hidx, hbits, groupSymbols_masked hm, setIdx_masked hm]
  split <;> rfl

theorem truncatedGroup_masked (body : Body) (s : State) :
    truncatedGroup g body (s.masked base mask) = (truncatedGroup g body s).masked base mask := by
  have hidx : (s.masked base mask).par.idx = s.par.idx := hm.idx_eq s.par
  unfold truncatedGroup
  rw [hidx]
  rfl

theorem emitGroupRecord_masked (body : Body) (s : State) :
    emitGroupRecord n body (s.masked base mask) = (emitGroupRecord n body s).masked base mask := by
  have hidx : (s.masked base mask).par.idx = s.par.idx := hm.idx_eq s.par
  unfold emitGroupRecord
  rw [hidx]
  rfl

end

theorem groupMask_maskHeader : GroupMask .maskHeader := ⟨fun _ _ => rfl, fun _ => rfl⟩
theorem groupMask_maskWords : GroupMask .maskWords := ⟨fun _ _ => rfl, fun _ => rfl⟩
theorem groupMask_maskTrailer : GroupMask .maskTrailer := ⟨fun _ _ => rfl, fun _ => rfl⟩
theorem groupMask_maskTrailerValue : GroupMask .maskTrailerValue := ⟨fun _ _ => rfl, fun _ => rfl⟩
theorem groupMask_maskCalc : GroupMask .maskCalc := ⟨fun _ _ => rfl, fun _ => rfl⟩

/-! ### The frame path, each part writing its registers -/

section
variable (base : Nat) (s : State)

theorem parseHeader_masked : parseHeader (s.masked base .maskHeader) = (parseHeader s).masked base .maskWords := by
  unfold parseHeader
  rw [group_masked groupMask_maskHeader]
  rcases group 4 groupHeader s with ⟨_ | v, u⟩
  · exact congrArg (setPhase .payload) (truncatedGroup_masked groupMask_maskWords _ _ _ (setHeader _ u))
  · exact congrArg (setPhase .payload) (emitGroupRecord_masked groupMask_maskWords _ _ _ (setHeader _ u))

theorem parseWord_masked (w : Nat) (s : State) :
    parseWord w (s.masked base .maskTrailer) = (parseWord w s).masked base .maskTrailer := by
  unfold parseWord
  rw [group_masked groupMask_maskTrailer]
  rcases group 8 (groupWord w) s with ⟨_ | v, u⟩
  · exact truncatedGroup_masked groupMask_maskTrailer _ _ _ (pushWord _ u)
  · exact emitGroupRecord_masked groupMask_maskTrailer _ _ _ (pushWord _ u)

theorem parseWords_masked (n : Nat) : ∀ (w : Nat) (s : State),
    parseWords n w (s.masked base .maskTrailer) = (parseWords n w s).masked base .maskTrailer := by
  induction n with
  | zero => exact fun _ _ => rfl
  | succ n ih =>
    intro w s
    rw [parseWords, parseWord_masked, ih, parseWords]

theorem parsePayload_masked : parsePayload (s.masked base .maskWords) = (parsePayload s).masked base .maskTrailer :=
  congrArg (setPhase .crc) (parseWords_masked base s.par.count.toNat 0 (clearWords s))

theorem parseTrailerGroup_masked :
    parseTrailerGroup (s.masked base .maskTrailer) = (parseTrailerGroup s).masked base .maskCalc := by
  have hbegin : beginTrailer (s.masked base .maskTrailer) = (beginTrailer s).masked base .maskTrailerValue := rfl
  unfold parseTrailerGroup
  rw [hbegin, group_masked groupMask_maskTrailerValue]
  rcases group 8 groupTrailer (beginTrailer s) with ⟨_ | v, u⟩
  · exact truncatedGroup_masked groupMask_maskCalc _ _ _ (setCrcRx _ u)
  · exact emitGroupRecord_masked groupMask_maskCalc _ _ _ (setCrcRx _ u)

theorem parseTrailer_masked : parseTrailer (s.masked base .maskTrailer) = (parseTrailer s).masked base id := by
  have hcompare : ∀ u : State, compareCrc (u.masked base id) = (compareCrc u).masked base id := by
    intro u
    unfold compareCrc
    rw [apply_ite (State.masked · base id)]
    rfl
  unfold parseTrailer
  rw [parseTrailerGroup_masked]
  exact congrArg (setPhase .eop) (hcompare (computeCrc (parseTrailerGroup s)))

theorem parseTerminator_masked : parseTerminator (s.masked base id) = (parseTerminator s).masked base id := by
  unfold parseTerminator
  dsimp only
  rw [apply_ite (State.masked · base id), apply_ite (State.masked · base id)]
  rfl

@[simp] theorem masked_sopOff : (s.masked base .maskStart).par.sopOff = s.par.sopOff := rfl
@[simp] theorem masked_sopKind : (s.masked base .maskStart).par.sopKind = s.par.sopKind := rfl
@[simp] theorem masked_sopMatches : (s.masked base .maskStart).par.sopMatches = s.par.sopMatches := rfl

theorem emitPreamble_masked : emitPreamble (s.masked base .maskStart) = (emitPreamble s).masked base .maskStart := by
  simp only [emitPreamble, masked_sopOff, range_masked, emit_masked]
  exact (apply_ite (State.masked · base .maskStart) _ _ _).symm

theorem emitSopSymbols_masked :
    emitSopSymbols (s.masked base .maskStart) = (emitSopSymbols s).masked base .maskStart := by
  simp only [emitSopSymbols, masked_sopOff, emitSymbol_masked]

theorem emitSop_masked : emitSop (s.masked base .maskStart) = (emitSop s).masked base .maskStart := by
  simp only [emitSop, masked_sopOff, masked_sopKind, masked_sopMatches, range_masked, emit_masked]

theorem enterParser_masked : enterParser (s.masked base .maskStart) = (enterParser s).masked base .maskHeader := by
  have hidx : ∀ k, setIdx k (s.masked base .maskStart) = (setIdx k s).masked base .maskHeader := fun _ => rfl
  simp only [enterParser, masked_sopOff, hidx, setPhase_masked]

theorem afterSop_masked : afterSop (s.masked base .maskStart) = (afterSop s).masked base .maskHeader := by
  simp only [afterSop, emitPreamble_masked, emitSopSymbols_masked, emitSop_masked, enterParser_masked]

theorem frameOutput_masked : frameOutput (s.masked base .maskStart) = (frameOutput s).masked base id := by
  rw [frameOutput_eq, afterTerminator, afterSop_masked, parseHeader_masked, parsePayload_masked, parseTrailer_masked,
    parseTerminator_masked]
  have hframe : ∀ u : State, emitFrame (u.masked base id) = (emitFrame u).masked base id := fun _ => rfl
  have hbitrate : ∀ u : State, emitBitrate (u.masked base id) = (emitBitrate u).masked base id := fun _ => rfl
  rw [hframe, hbitrate, frameOutput_eq, afterTerminator]

end

/-- What the frame path reads of a state, behind no history. -/
def State.bare (s : State) : State := { s.masked 0 .maskStart with out := [], pending := [] }

/-- The frame path appends what it emits from the bare state. -/
theorem frameOutput_out_bare (s : State) : (frameOutput s).out = s.out ++ (frameOutput s.bare).out := by
  have hbehind : s.masked s.out.length .maskStart = s.bare.behind s.out s.pending := by
    simp [State.behind, State.bare, State.masked]
  calc (frameOutput s).out
      = (frameOutput (s.masked s.out.length .maskStart)).out := by rw [frameOutput_masked]; rfl
    _ = s.out ++ (frameOutput s.bare).out := by rw [hbehind, frameOutput_blind]; rfl

/-! ### The close -/

/-- `s` with what the close does not read taken from `m`. -/
def State.withUnread (s m : State) : State :=
  { s with
    win := { s.win with halfStart := m.win.halfStart }
    par := m.par
    out := m.out
    outBase := m.outBase
    rdata := m.rdata
    symdecOut := m.symdecOut
    chooseOut := m.chooseOut
    pending := m.pending }

/-- With a window open, states that agree differ in nothing else. -/
theorem State.AgreeOnRead.eq_withUnread {s t : State} (h : s.AgreeOnRead t) (ho : s.win.isOpen = true) :
    t = s.withUnread t := by
  obtain ⟨hbuild, hcfg, hstatus, hphase, hopen, hlevel, hhalf, hbits, herrs, hwindow, -⟩ := h
  obtain ⟨hfirst, hprev, hflags⟩ := hwindow ho
  simp only [State.withUnread, ← hbuild, ← hcfg, ← hstatus, ← hphase, ← hopen, ← hlevel, ← hhalf, ← hbits,
    ← herrs, ← hfirst, ← hprev, ← hflags]

/-- The close appends the same records whatever stands in what it does not read. -/
theorem closeWindow_out_withUnread (s m : State) :
    ∃ rs, (closeWindow s).out = s.out ++ rs ∧ (closeWindow (s.withUnread m)).out = m.out ++ rs := by
  have hscan : syncScan (s.withUnread m) = syncScan s := syncScan_of_bits rfl rfl rfl
  cases hs : syncScan s with
  | none =>
    rw [closeWindow_out_junk hs, closeWindow_out_junk (hscan.trans hs)]
    simp only [List.append_assoc]
    exact ⟨_, rfl, rfl⟩
  | some hit =>
    by_cases hclass : sopClass hit.row.kind = .reset
    · rw [closeWindow_out_reset hs hclass, closeWindow_out_reset (hscan.trans hs) hclass]
      simp only [List.append_assoc]
      exact ⟨_, rfl, rfl⟩
    · have hbare : (acceptedState (s.withUnread m) hit.off hit.row).bare =
          (acceptedState s hit.off hit.row).bare := rfl
      rw [closeWindow_out_framePath hs hclass (frameOutput_out_bare _),
        closeWindow_out_framePath (hscan.trans hs) hclass (frameOutput_out_bare _), hbare]
      simp only [List.append_assoc]
      exact ⟨_, rfl, rfl⟩

theorem State.AgreeOnRead.closeWindow_out {s t : State} (h : s.AgreeOnRead t) (ho : s.win.isOpen = true) :
    ∃ rs, (closeWindow s).out = s.out ++ rs ∧ (closeWindow t).out = t.out ++ rs := by
  rw [h.eq_withUnread ho]
  exact closeWindow_out_withUnread s t

/-! ### What an operation makes of two states that agree -/

section
variable {s t : State} (h : s.AgreeOnRead t)
include h

theorem noteOverflow_agree : (noteOverflow s).AgreeOnRead (noteOverflow t) := by
  obtain ⟨hbuild, hcfg, hstatus, hphase, hopen, hlevel, hhalf, hbits, herrs, hwindow, hstart⟩ := h
  refine ⟨hbuild, hcfg, by simp [noteOverflow, hstatus], hphase, hopen, hlevel, hhalf, hbits, herrs, fun ho => ?_,
    hstart⟩
  obtain ⟨hfirst, hprev, hflags⟩ := hwindow ho
  exact ⟨hfirst, hprev, by simp [noteOverflow, hflags]⟩

theorem memWrite_agree (b : BitRecord) : (memWrite b s).AgreeOnRead (memWrite b t) := by
  obtain ⟨hbuild, hcfg, hstatus, hphase, hopen, hlevel, hhalf, hbits, herrs, hwindow, hstart⟩ := h
  exact ⟨hbuild, hcfg, hstatus, hphase, hopen, hlevel, hhalf, congrArg (· ++ [b]) hbits, herrs, hwindow, hstart⟩

theorem memAppend_agree (b : BitRecord) : (memAppend b s).AgreeOnRead (memAppend b t) := by
  obtain ⟨hbuild, -, -, -, -, -, -, hbits, -⟩ := id h
  have hfull : bufferFull t = bufferFull s := by
    rw [bufferFull, bufferFull, nbits, nbits, hbuild, hbits]
  unfold memAppend
  rw [hfull]
  split
  · exact noteOverflow_agree h
  · exact memWrite_agree h b

theorem setHalf_agree (v : Sample) : (setHalf s v).AgreeOnRead (setHalf t v) := by
  obtain ⟨hbuild, hcfg, hstatus, hphase, hopen, hlevel, -, hbits, herrs, hwindow, -⟩ := h
  exact ⟨hbuild, hcfg, hstatus, hphase, hopen, hlevel, rfl, hbits, herrs, hwindow, fun _ => rfl⟩

theorem clearHalf_agree : (clearHalf s).AgreeOnRead (clearHalf t) := by
  obtain ⟨hbuild, hcfg, hstatus, hphase, hopen, hlevel, -, hbits, herrs, hwindow, -⟩ := h
  exact ⟨hbuild, hcfg, hstatus, hphase, hopen, hlevel, rfl, hbits, herrs, hwindow, (nomatch ·)⟩

theorem addDemodErr_agree (a b : Sample) : (addDemodErr a b s).AgreeOnRead (addDemodErr a b t) := by
  obtain ⟨hbuild, hcfg, hstatus, hphase, hopen, hlevel, hhalf, hbits, herrs, hwindow, hstart⟩ := h
  exact ⟨hbuild, hcfg, hstatus, hphase, hopen, hlevel, hhalf, hbits, congrArg (· ++ [(a, b)]) herrs, hwindow, hstart⟩

theorem advanceEdge_agree (T : Sample) (l : Bool) : (advanceEdge T l s).AgreeOnRead (advanceEdge T l t) := by
  obtain ⟨hbuild, hcfg, hstatus, hphase, hopen, -, hhalf, hbits, herrs, hwindow, hstart⟩ := h
  refine ⟨hbuild, hcfg, hstatus, hphase, hopen, rfl, hhalf, hbits, herrs, fun ho => ?_, hstart⟩
  obtain ⟨hfirst, -, hflags⟩ := hwindow ho
  exact ⟨hfirst, rfl, hflags⟩

theorem openWindow_agree (T : Sample) (l : Bool) : (openWindow T l s).AgreeOnRead (openWindow T l t) := by
  obtain ⟨hbuild, hcfg, hstatus, -⟩ := h
  exact ⟨hbuild, hcfg, hstatus, rfl, rfl, rfl, rfl, rfl, rfl, fun _ => ⟨rfl, rfl, rfl⟩, (nomatch ·)⟩

theorem clearWindow_agree : (clearWindow s).AgreeOnRead (clearWindow t) := by
  obtain ⟨hbuild, hcfg, hstatus, hphase, -, hlevel, -⟩ := h
  exact ⟨hbuild, hcfg, hstatus, hphase, rfl, hlevel, rfl, rfl, rfl, (nomatch ·), (nomatch ·)⟩

theorem forgetLevel_agree : (forgetLevel s).AgreeOnRead (forgetLevel t) := by
  obtain ⟨hbuild, hcfg, hstatus, hphase, hopen, -, hhalf, hbits, herrs, hwindow, hstart⟩ := h
  exact ⟨hbuild, hcfg, hstatus, hphase, hopen, rfl, hhalf, hbits, herrs, hwindow, hstart⟩

/-- The close writes what it leaves, but for the registers that outlive the window. -/
theorem closeWindow_agree : (closeWindow s).AgreeOnRead (closeWindow t) := by
  obtain ⟨hbuild, hcfg, hstatus, -, -, hlevel, -⟩ := h
  refine ⟨by simpa, by simpa, by simpa, ?_⟩
  simp [hlevel]

/-- A change of STATUS alone. -/
theorem setStatus_agree (f : StatusBits → StatusBits) :
    ({ s with status := f s.status } : State).AgreeOnRead { t with status := f t.status } := by
  obtain ⟨hbuild, hcfg, hstatus, hrest⟩ := h
  exact ⟨hbuild, hcfg, congrArg f hstatus, hrest⟩

end

section
variable {s t : State} (h : s.AgreeOnRead t) (ho : s.win.isOpen = true) (T : Sample)
include h ho

theorem shortGap_agree : (shortGap T s).AgreeOnRead (shortGap T t) := by
  obtain ⟨-, -, -, -, -, -, hhalf, -, -, hwindow, hstart⟩ := id h
  obtain ⟨-, hprev, -⟩ := hwindow ho
  unfold shortGap
  rw [hhalf, hprev]
  split
  · next hp =>
    rw [hstart hp]
    exact clearHalf_agree (memAppend_agree h _)
  · exact setHalf_agree h _

theorem longGap_agree : (longGap T s).AgreeOnRead (longGap T t) := by
  obtain ⟨-, -, -, -, -, -, hhalf, -, -, hwindow, hstart⟩ := id h
  obtain ⟨-, hprev, -⟩ := hwindow ho
  unfold longGap
  rw [hhalf, hprev]
  split
  · next hp =>
    rw [hstart hp]
    exact clearHalf_agree (memAppend_agree (addDemodErr_agree h _ _) _)
  · exact memAppend_agree h _

theorem badGap_agree : (badGap T s).AgreeOnRead (badGap T t) := by
  obtain ⟨-, -, -, -, -, -, hhalf, -, -, hwindow, hstart⟩ := id h
  obtain ⟨-, hprev, -⟩ := hwindow ho
  have hfrom : (if t.win.halfPending then t.win.halfStart else t.win.prevT) =
      if s.win.halfPending then s.win.halfStart else s.win.prevT := by
    rw [hhalf, hprev]
    split
    · next hp => exact hstart hp
    · rfl
  unfold badGap
  rw [hfrom, hprev]
  exact clearHalf_agree (memAppend_agree (addDemodErr_agree h _ _) _)

/-- What the gap of an open window does depends on the half-cell only while one is pending. -/
theorem gapOp_agree : (gapOp T s).AgreeOnRead (gapOp T t) := by
  obtain ⟨-, hcfg, -, -, -, -, -, -, -, hwindow, -⟩ := id h
  obtain ⟨-, hprev, -⟩ := hwindow ho
  unfold gapOp
  rw [hcfg, hprev]
  split
  · exact h
  · exact shortGap_agree h ho T
  · exact longGap_agree h ho T
  · exact badGap_agree h ho T
  · exact badGap_agree h ho T

end

/-! ### The instructions -/

/-- From states that agree `k` reaches states that agree, and appends the same records. -/
def KeepsAgreement (k : State → State) : Prop :=
  ∀ {s t : State}, s.AgreeOnRead t →
    (k s).AgreeOnRead (k t) ∧ ∃ rs, (k s).out = s.out ++ rs ∧ (k t).out = t.out ++ rs

/-- Nothing is appended to either output. -/
theorem agree_of_silent {s t s' t' : State} (h : s'.AgreeOnRead t') (hs : s'.out = s.out) (ht : t'.out = t.out) :
    s'.AgreeOnRead t' ∧ ∃ rs, s'.out = s.out ++ rs ∧ t'.out = t.out ++ rs :=
  ⟨h, [], by rw [hs, List.append_nil], by rw [ht, List.append_nil]⟩

/-- An edge within the order of an open window is timed by its gap (40_input_events.md R62). -/
theorem edgeStarted_gap {s : State} {T : Sample} {l : Bool} (hlevel : s.win.level ≠ some l)
    (hopen : s.win.isOpen = true) (hT : s.win.prevT < T) : edgeStarted T l s = edgeGap T l s := by
  simp [edgeStarted, qualifying, hlevel, hopen, BitVec.not_le.2 hT]

theorem edgeStarted_keepsAgreement (T : Sample) (l : Bool) : KeepsAgreement (edgeStarted T l) := by
  intro s t h
  obtain ⟨-, hcfg, -, -, hopen, hlevel, -, -, -, hwindow, -⟩ := id h
  rcases edgeStarted_cases T l s with ⟨hl, hs⟩ | ⟨hl, ho, hs⟩ | ⟨hl, ho, hT, hs⟩ | ⟨hl, ho, hT, hidle, hs⟩
    | ⟨hl, ho, hT, hidle, hs⟩ <;> rw [hs]
  · rw [edgeStarted_sameLevel (hlevel.trans hl)]
    exact agree_of_silent h rfl rfl
  · rw [edgeStarted_opens (by rwa [hlevel]) (hopen.trans ho)]
    exact agree_of_silent (openWindow_agree h T l) rfl rfl
  · obtain ⟨-, hprev, -⟩ := hwindow ho
    rw [edgeStarted_early (by rwa [hlevel]) (hopen.trans ho) (by rwa [hprev])]
    exact agree_of_silent (setStatus_agree h fun u => { u with inputErr := true }) rfl rfl
  · obtain ⟨-, hprev, -⟩ := hwindow ho
    rw [edgeStarted_gap (by rwa [hlevel]) (hopen.trans ho) (by rwa [hprev]), edgeGap_idle (by rwa [hprev, hcfg])]
    exact ⟨openWindow_agree (closeWindow_agree h) T l, h.closeWindow_out ho⟩
  · obtain ⟨-, hprev, -⟩ := hwindow ho
    rw [edgeStarted_gap (by rwa [hlevel]) (hopen.trans ho) (by rwa [hprev]), edgeGap_timed (by rwa [hprev, hcfg])]
    exact agree_of_silent (advanceEdge_agree (gapOp_agree h ho T) T l) (gapOp_recovery T s).out (gapOp_recovery T t).out

theorem tickStarted_idle {s : State} {T : Sample} (hopen : s.win.isOpen = true) (hidle : s.IdleAt T) :
    tickStarted T s = forgetLevel (closeWindow s) := by
  obtain ⟨hle, hgap⟩ := hidle
  simp [tickStarted, hopen, BitVec.not_lt.2 hle, hgap]

theorem tickStarted_keepsAgreement (T : Sample) : KeepsAgreement (tickStarted T) := by
  intro s t h
  obtain ⟨-, hcfg, -, -, hopen, -, -, -, -, hwindow, -⟩ := id h
  rcases tickStarted_cases T s with ⟨ho, hs⟩ | ⟨ho, hT, hs⟩ | ⟨ho, hidle, hs⟩ | ⟨ho, hT, hlimit, hs⟩ <;> rw [hs]
  · rw [tickStarted_closed (hopen.trans ho)]
    exact agree_of_silent h rfl rfl
  · obtain ⟨-, hprev, -⟩ := hwindow ho
    rw [tickStarted_early (hopen.trans ho) (by rwa [hprev])]
    exact agree_of_silent (setStatus_agree h fun u => { u with inputErr := true }) rfl rfl
  · obtain ⟨-, hprev, -⟩ := hwindow ho
    rw [tickStarted_idle (hopen.trans ho) (by rwa [State.IdleAt, hprev, hcfg])]
    exact ⟨forgetLevel_agree (closeWindow_agree h), h.closeWindow_out ho⟩
  · obtain ⟨-, hprev, -⟩ := hwindow ho
    rw [tickStarted_within (hopen.trans ho) (by rwa [hprev])
      (by rw [State.IdleAt, hprev, hcfg]; exact fun hi => BitVec.not_lt.2 hlimit hi.2)]
    exact agree_of_silent h rfl rfl

theorem unlessFatal_keepsAgreement {k : State → State} (hk : KeepsAgreement k) : KeepsAgreement (unlessFatal k) := by
  intro s t h
  obtain ⟨-, -, hstatus, -⟩ := id h
  unfold unlessFatal
  rw [hstatus]
  split
  · exact agree_of_silent h rfl rfl
  · exact hk h

theorem withStartCheck_keepsAgreement {k : State → State} (hk : KeepsAgreement k) (T : Sample) :
    KeepsAgreement (withStartCheck T k) := by
  intro s t h
  obtain ⟨-, hcfg, hstatus, -⟩ := id h
  unfold withStartCheck
  rw [hstatus, hcfg]
  split
  · exact hk h
  · split
    · exact hk (setStatus_agree h fun u => { u with started := true })
    · exact ⟨setStatus_agree h fun u => { u with fatal := true }, _, rfl, rfl⟩

/-- The port reads no register that is left unspecified. -/
theorem readCfg_agree {s t : State} (h : s.AgreeOnRead t) (r : CfgReg) : readCfg r t = readCfg r s := by
  obtain ⟨-, hcfg, hstatus, hphase, hopen, -⟩ := h
  unfold readCfg statusWord
  rw [hcfg, hstatus, hphase, hopen]

theorem cfgw_keepsAgreement (a v : Reg) :
    KeepsAgreement fun s => if s.status.started then s else { s with cfg := writeCfg (cfgRegAt a) v s.cfg } := by
  intro s t h
  obtain ⟨hbuild, hcfg, hstatus, hrest⟩ := id h
  dsimp only
  rw [hstatus]
  split
  · exact agree_of_silent h rfl rfl
  · exact agree_of_silent ⟨hbuild, congrArg (writeCfg (cfgRegAt a) v) hcfg, rfl, hrest⟩ rfl rfl

/-- Every instruction keeps the agreement. -/
theorem exec_keepsAgreement (i : Instr) : ∃ k, KeepsAgreement k ∧ ∀ s, exec i s = .next (k s) := by
  cases i with
  | edge T l =>
    exact ⟨_, unlessFatal_keepsAgreement (withStartCheck_keepsAgreement (edgeStarted_keepsAgreement T l) T),
      fun _ => rfl⟩
  | tick T =>
    exact ⟨_, unlessFatal_keepsAgreement (withStartCheck_keepsAgreement (tickStarted_keepsAgreement T) T),
      fun _ => rfl⟩
  | eos =>
    exact ⟨_, unlessFatal_keepsAgreement (k := fun s => forgetLevel (clearWindow s))
      fun h => agree_of_silent (forgetLevel_agree (clearWindow_agree h)) rfl rfl, fun _ => rfl⟩
  | rsvd =>
    exact ⟨_, unlessFatal_keepsAgreement (k := setBadev)
      fun h => agree_of_silent (setStatus_agree h fun u => { u with badev := true }) rfl rfl, fun _ => rfl⟩
  | cfgw a v => exact ⟨_, cfgw_keepsAgreement a v, fun _ => rfl⟩
  | _ =>
    refine ⟨_, ?_, fun _ => rfl⟩
    exact fun h => agree_of_silent h rfl rfl

/-- Settles O57: every instruction keeps the agreement, and CFGR reads only what the two states agree on. -/
theorem unspecifiedRegistersAreNeverRead : Obligations.UnspecifiedRegistersAreNeverRead := by
  intro i s t s' h hs
  obtain ⟨k, hk, hexec⟩ := exec_keepsAgreement i
  obtain ⟨hagree, rs, hout, hout'⟩ := hk h
  cases (hexec s).symm.trans hs
  refine ⟨k t, rs, hexec t, hagree, hout, hout', ?_⟩
  rintro a rfl
  rw [cfgr_rdata (hexec t), cfgr_rdata (hexec s), readCfg_agree h]

end Sys2Proof.Machine
end

section
/-! PROOFS. The invariant (10_state.md section 3, 20_memory.md section 7, 41_bit_recovery.md section 4): it holds right
after reset, and every step keeps it. -/

namespace Sys2Proof.Machine

/-! ### Reset, and a window ended -/

theorem doReset_inv {s : State} (hbuild : s.build.wf = true) : (doReset s).Inv :=
  ⟨hbuild, ⟨rfl, rfl, nofun, nofun⟩, fun _ => ⟨rfl, rfl, rfl, rfl⟩, nofun, ⟨fun c _ => Nat.zero_le c, nofun⟩,
    Nat.le_refl _⟩

/-- Settles O8: the power-on state is what reset leaves of it, and the default build is well formed. -/
theorem invariantHoldsAtReset : Obligations.InvariantHoldsAtReset :=
  doReset_inv (s := State.reset) (by decide)

/-- The clauses of the invariant that do not speak of the window. -/
structure State.Controlled (s : State) : Prop where
  build : s.build.wf = true
  control : s.ControlInv
  outBase : s.outBase ≤ s.out.length

theorem State.Inv.controlled {s : State} (hi : s.Inv) : s.Controlled := by
  obtain ⟨hbuild, hcontrol, -, -, -, hbase⟩ := hi
  exact ⟨hbuild, hcontrol, hbase⟩

/-- The close leaves the parser registers clear and the phase DEMODULATING, and only adds to the output. -/
theorem closeWindow_controlled {s : State} (h : s.Controlled) : (closeWindow s).Controlled := by
  obtain ⟨hbuild, ⟨-, -, hvalid, hfatal⟩, hbase⟩ := h
  have hout := (closeWindow_out_prefix s).length_le
  exact ⟨by simpa, ⟨by simp, by simp, by simpa, by simpa⟩, by simpa using hbase.trans hout⟩

/-- A window closed or dropped leaves nothing behind. -/
theorem forgetLevel_inv {s : State} (h : s.Controlled)
    (hwin : s.win = { s.win with isOpen := false, halfPending := false, bits := [], demodErrs := [] }) :
    (forgetLevel s).Inv := by
  obtain ⟨hbuild, hcontrol, hbase⟩ := h
  have hopen : s.win.isOpen = false := by rw [hwin]
  have hbits : s.win.bits = [] := by rw [hwin]
  refine ⟨hbuild, hcontrol, fun _ => ⟨rfl, by rw [forgetLevel_win, hwin], hbits, by rw [forgetLevel_win, hwin]⟩,
    fun ho => ?_, ⟨fun c _ => ?_, fun ho => ?_⟩, hbase⟩
  · exact absurd (hopen.symm.trans ho) (by decide)
  · simp [hbits]
  · exact absurd (hopen.symm.trans ho) (by decide)

theorem openWindow_inv {s : State} (h : s.Controlled) (hstarted : s.status.started = true) (T : Sample) (l : Bool) :
    (openWindow T l s).Inv := by
  obtain ⟨hbuild, ⟨-, hpar, hvalid, hfatal⟩, hbase⟩ := h
  exact ⟨hbuild, ⟨rfl, hpar, hvalid, hfatal⟩, nofun,
    fun _ => ⟨hstarted, rfl, BitVec.le_refl T, nofun, rfl, BitVec.le_refl T, nofun, rfl, rfl, rfl, rfl⟩,
    ⟨fun c _ => Nat.zero_le c, nofun⟩, hbase⟩

/-! ### Bit recovery -/

theorem sample_lt_of_le_of_lt {a b c : Sample} (hab : a ≤ b) (hbc : b < c) : a < c := by
  bv_omega


/-- What `OpenInv` says of the window's sample indices (41_bit_recovery.md R77). -/
structure WindowState.Recovering (w : WindowState) : Prop where
  first : w.firstT ≤ w.bitLimit
  half : w.halfPending = true → w.halfStart < w.prevT
  bits : Memory.wfFrom w.firstT w.bits = true
  bitsEnd : Memory.endFrom w.firstT w.bits ≤ w.bitLimit
  errors : ∀ e ∈ w.demodErrs, w.spans e

theorem openInv_iff {s : State} : s.OpenInv ↔ (s.win.isOpen = true → s.status.started = true
    ∧ s.win.level.isSome = true ∧ s.win.Recovering
    ∧ s.flags.trunc = false ∧ s.flags.badsym = false ∧ s.flags.crc = false ∧ s.flags.noeop = false) := by
  refine forall_congr' fun _ => ⟨?_, ?_⟩
  · rintro ⟨hstarted, hlevel, hfirst, hhalf, hbits, hend, herrs, hflags⟩
    exact ⟨hstarted, hlevel, ⟨hfirst, hhalf, hbits, hend, herrs⟩, hflags⟩
  · rintro ⟨hstarted, hlevel, ⟨hfirst, hhalf, hbits, hend, herrs⟩, hflags⟩
    exact ⟨hstarted, hlevel, hfirst, hhalf, hbits, hend, herrs, hflags⟩

theorem WindowState.Recovering.bitLimit_le {w : WindowState} (h : w.Recovering) : w.bitLimit ≤ w.prevT := by
  unfold WindowState.bitLimit
  split
  · next hp => exact BitVec.le_of_lt (h.half hp)
  · exact BitVec.le_refl _

/-- The errors so far, seen from a later edge. -/
theorem WindowState.Recovering.errors_before {w : WindowState} (h : w.Recovering) {T : Sample} (hT : w.prevT < T) :
    ∀ e ∈ w.demodErrs, w.firstT ≤ e.1 ∧ e.1 < e.2 ∧ e.2 ≤ T := by
  intro e he
  obtain ⟨hfirst, hlt, hlast⟩ := h.errors e he
  exact ⟨hfirst, hlt, BitVec.le_of_lt (sample_lt_of_le_of_lt hlast hT)⟩

/-- With no half pending the last edge is the limit. -/
theorem WindowState.Recovering.of_noHalf {w : WindowState} (hhalf : w.halfPending = false) (hfirst : w.firstT ≤ w.prevT)
    (hbits : Memory.wfFrom w.firstT w.bits = true) (hend : Memory.endFrom w.firstT w.bits ≤ w.prevT)
    (herrs : ∀ e ∈ w.demodErrs, w.spans e) : w.Recovering := by
  have hlimit : w.bitLimit = w.prevT := by simp [WindowState.bitLimit, hhalf]
  exact ⟨hlimit ▸ hfirst, by simp [hhalf], hbits, hlimit ▸ hend, herrs⟩

theorem memAppend_endFrom_le {lo : Sample} {b : BitRecord} {s : State}
    (he : Memory.endFrom lo s.win.bits ≤ b.start) (hb : b.start < b.stop) :
    Memory.endFrom lo (memAppend b s).win.bits ≤ b.stop := by
  rcases memAppend_cases b s with ⟨-, h⟩ | ⟨-, h⟩ <;> rw [h]
  · exact BitVec.le_trans he (BitVec.le_of_lt hb)
  · exact BitVec.le_of_eq (Memory.endFrom_append _ _ _)

/-- A bit from the limit or later up to the new edge, with or without an error, keeps the order. -/
theorem appendBit_recovering {s u : State} {start T : Sample} (h : s.win.Recovering)
    (hu : u.win = { s.win with demodErrs := u.win.demodErrs })
    (herrs : ∀ e ∈ u.win.demodErrs, s.win.firstT ≤ e.1 ∧ e.1 < e.2 ∧ e.2 ≤ T)
    (hstart : s.win.bitLimit ≤ start) (hlt : start < T) (v l : Bool) :
    (advanceEdge T l (clearHalf (memAppend ⟨v, start, T⟩ u))).win.Recovering := by
  have hfirst : u.win.firstT = s.win.firstT := by rw [hu]
  have hbits : u.win.bits = s.win.bits := by rw [hu]
  have hend : Memory.endFrom u.win.firstT u.win.bits ≤ start := by
    rw [hfirst, hbits]
    exact BitVec.le_trans h.bitsEnd hstart
  have hwf : Memory.wfFrom u.win.firstT u.win.bits = true := by
    rw [hfirst, hbits]
    exact h.bits
  refine .of_noHalf rfl ?_ ?_ ?_ ?_
  · simp only [advanceEdge_win, clearHalf_win, memAppend_firstT, hfirst]
    exact BitVec.le_of_lt (sample_lt_of_le_of_lt (BitVec.le_trans h.first hstart) hlt)
  · simpa using memAppend_keeps_wf (b := ⟨v, start, T⟩) hwf hend hlt
  · simpa using memAppend_endFrom_le (b := ⟨v, start, T⟩) hend hlt
  · simpa [WindowState.spans, hfirst] using herrs

theorem clearHalf_of_noHalf {s : State} (h : s.win.halfPending = false) : clearHalf s = s := by
  unfold clearHalf
  rw [← h]

section
variable {s : State} {T : Sample} (h : s.win.Recovering) (hT : s.win.prevT < T)
include h hT

/-- An error from the limit up to the new edge lies inside the edge span. -/
theorem addDemodErr_errors : ∀ e ∈ (addDemodErr s.win.bitLimit T s).win.demodErrs,
    s.win.firstT ≤ e.1 ∧ e.1 < e.2 ∧ e.2 ≤ T := by
  intro e he
  rcases List.mem_append.1 he with he | he
  · exact h.errors_before hT e he
  · rw [List.mem_singleton.1 he]
    exact ⟨h.first, sample_lt_of_le_of_lt h.bitLimit_le hT, BitVec.le_refl T⟩

theorem shortGap_recovering (l : Bool) : (advanceEdge T l (shortGap T s)).win.Recovering := by
  rcases shortGap_cases T s with ⟨hp, hgap⟩ | ⟨hp, hgap⟩ <;> rw [hgap]
  · have hlimit : s.win.bitLimit = s.win.prevT := if_neg (by simp [hp])
    exact ⟨hlimit ▸ h.first, fun _ => hT, h.bits, hlimit ▸ h.bitsEnd, h.errors_before hT⟩
  · have hlimit : s.win.bitLimit = s.win.halfStart := if_pos hp
    exact appendBit_recovering h rfl (h.errors_before hT) (BitVec.le_of_eq hlimit)
      (hlimit ▸ sample_lt_of_le_of_lt h.bitLimit_le hT) true l

theorem badGap_recovering (l : Bool) : (advanceEdge T l (badGap T s)).win.Recovering :=
  appendBit_recovering (u := addDemodErr s.win.bitLimit T s) h rfl (addDemodErr_errors h hT) h.bitLimit_le hT false l

/-- With a half pending a LONG gap does what a BAD one does. -/
theorem longGap_recovering (l : Bool) : (advanceEdge T l (longGap T s)).win.Recovering := by
  rcases longGap_cases T s with ⟨hp, hgap⟩ | ⟨hp, hgap⟩
  · rw [hgap, ← clearHalf_of_noHalf (s := memAppend _ s) (by simpa using hp)]
    exact appendBit_recovering h rfl (h.errors_before hT) h.bitLimit_le hT false l
  · have hlimit : s.win.bitLimit = s.win.halfStart := if_pos hp
    rw [hgap, ← hlimit]
    exact badGap_recovering h hT l

/-- A gap within the idle limit keeps the order of the window's sample indices. -/
theorem gapOp_recovering (hidle : T - s.win.prevT ≤ s.cfg.thrIdle) (l : Bool) :
    (advanceEdge T l (gapOp T s)).win.Recovering := by
  unfold gapOp
  split
  · next hclass => exact absurd (gapClass_eq_idle.1 hclass) (BitVec.not_lt.2 hidle)
  · exact shortGap_recovering h hT l
  · exact longGap_recovering h hT l
  · exact badGap_recovering h hT l
  · exact badGap_recovering h hT l

end

/-- A bit discarded marks the buffer as full, and a full buffer stays as it is (20_memory.md R45). -/
theorem memAppend_capacity {s : State} (h : s.CapacityInv) (ho : s.win.isOpen = true) (b : BitRecord) :
    (memAppend b s).CapacityInv := by
  obtain ⟨hcap, hovf⟩ := h
  rcases memAppend_cases b s with ⟨hfull, happend⟩ | ⟨hroom, happend⟩ <;> rw [happend]
  · obtain ⟨c, hc, hle⟩ := bufferFull_eq_true.1 hfull
    have hnbits : nbits s = c := Nat.le_antisymm (hcap c hc) hle
    exact ⟨hcap, fun _ _ => ⟨rfl, hnbits ▸ hc⟩⟩
  · have hlt := bufferFull_eq_false.1 hroom
    refine ⟨fun c hc => ?_, fun _ hset => ?_⟩
    · simpa [memWrite] using hlt c hc
    · obtain ⟨-, hc⟩ := hovf ho hset
      exact absurd (hlt _ hc) (Nat.lt_irrefl _)

theorem gapOp_capacity {s : State} (h : s.CapacityInv) (ho : s.win.isOpen = true) (T : Sample) :
    (gapOp T s).CapacityInv := by
  have happend : ∀ b, (memAppend b s).CapacityInv := memAppend_capacity h ho
  have hafterErr : ∀ a b, (memAppend b (addDemodErr a T s)).CapacityInv := fun a b =>
    memAppend_capacity (s := addDemodErr a T s) h ho b
  unfold gapOp
  split
  · exact h
  · rcases shortGap_cases T s with ⟨-, hgap⟩ | ⟨-, hgap⟩ <;> rw [hgap]
    · exact h
    · exact happend _
  · rcases longGap_cases T s with ⟨-, hgap⟩ | ⟨-, hgap⟩ <;> rw [hgap]
    · exact happend _
    · exact hafterErr _ _
  · exact hafterErr _ _
  · exact hafterErr _ _

/-- Bit recovery does not enter or leave the fatal stop. -/
theorem RecoveryFrame.fatal {s u : State} (h : RecoveryFrame s u) : u.status.fatal = s.status.fatal := by
  rcases h.overflowOnly with ⟨-, hstatus⟩ | ⟨-, -, -, hstatus⟩ <;> rw [hstatus]

theorem timedEdge_inv {s : State} (hi : s.Inv) (ho : s.win.isOpen = true) {T : Sample} (hT : s.win.prevT < T)
    (hidle : T - s.win.prevT ≤ s.cfg.thrIdle) (l : Bool) : (advanceEdge T l (gapOp T s)).Inv := by
  obtain ⟨hbuild, ⟨hphase, hpar, hvalid, hfatal⟩, -, hopen, hcapacity, hbase⟩ := hi
  obtain ⟨hstarted, -, hwin, hflags⟩ := openInv_iff.1 hopen ho
  have hgap := gapOp_recovery T s
  refine ⟨hgap.build ▸ hbuild, ⟨hgap.phase.trans hphase, hgap.par.trans hpar, fun hs => ?_, fun hf => ?_⟩,
    fun hclosed => ?_, openInv_iff.2 fun _ => ⟨hgap.started.trans hstarted, rfl, gapOp_recovering hwin hT hidle l, ?_⟩,
    gapOp_capacity hcapacity ho T, ?_⟩
  · exact (congrArg cfgValid hgap.cfg).trans (hvalid hstarted)
  · exact hgap.started.trans (hfatal (hgap.fatal.symm.trans hf))
  · exact absurd ((hgap.isOpen.trans ho).symm.trans hclosed) (by decide)
  · rcases hgap.overflowOnly with ⟨hkept, -⟩ | ⟨-, -, hset, -⟩
    · simpa [hkept] using hflags
    · simpa [hset] using hflags
  · simpa [hgap.out, hgap.outBase] using hbase

/-! ### The instructions and the step -/

/-- Setting a sticky bit of STATUS that no clause reads. -/
theorem setInputErr_inv {s : State} (hi : s.Inv) : (setInputErr s).Inv := hi

theorem setBadev_inv {s : State} (hi : s.Inv) : (setBadev s).Inv := hi

/-- No window is open before decoding has started (10_state.md R30, 40_input_events.md R66). -/
theorem State.Inv.closed_of_unstarted {s : State} (hi : s.Inv) (hs : s.status.started = false) :
    s.win.isOpen = false := by
  obtain ⟨-, -, -, hopen, -, -⟩ := hi
  by_contra hne
  obtain ⟨hstarted, -⟩ := hopen (by simpa using hne)
  exact absurd (hs.symm.trans hstarted) (by decide)

theorem setStarted_inv {s : State} (hi : s.Inv) (hfatal : s.status.fatal = false) (hs : s.status.started = false)
    (hvalid : cfgValid s.cfg = true) : (setStarted s).Inv := by
  have hclosed := hi.closed_of_unstarted hs
  obtain ⟨hbuild, ⟨hphase, hpar, -, -⟩, hnone, -, hcapacity, hbase⟩ := hi
  exact ⟨hbuild, ⟨hphase, hpar, fun _ => hvalid, fun hf => absurd (hfatal.symm.trans hf) (by decide)⟩, hnone,
    fun ho => absurd (hclosed.symm.trans ho) (by decide), hcapacity, hbase⟩

theorem enterFatal_inv {s : State} (hi : s.Inv) (hs : s.status.started = false) (T : Sample) :
    (enterFatal T s).Inv := by
  obtain ⟨hbuild, ⟨hphase, hpar, hvalid, -⟩, hclosed, hopen, hcapacity, hbase⟩ := hi
  exact ⟨hbuild, ⟨hphase, hpar, hvalid, fun _ => hs⟩, hclosed, hopen, hcapacity,
    by simpa using Nat.le_succ_of_le hbase⟩

theorem edgeStarted_inv {s : State} (hi : s.Inv) (hs : s.status.started = true) (T : Sample) (l : Bool) :
    (edgeStarted T l s).Inv := by
  rcases edgeStarted_cases T l s with ⟨-, h⟩ | ⟨-, -, h⟩ | ⟨-, -, -, h⟩ | ⟨-, -, -, -, h⟩
    | ⟨-, ho, hT, hidle, h⟩ <;> rw [h]
  · exact hi
  · exact openWindow_inv hi.controlled hs T l
  · exact setInputErr_inv hi
  · exact openWindow_inv (closeWindow_controlled hi.controlled) (by simpa using hs) T l
  · exact timedEdge_inv hi ho hT hidle l

theorem tickStarted_inv {s : State} (hi : s.Inv) (T : Sample) : (tickStarted T s).Inv := by
  rcases tickStarted_cases T s with ⟨-, h⟩ | ⟨-, -, h⟩ | ⟨-, -, h⟩ | ⟨-, -, -, h⟩ <;> rw [h]
  · exact hi
  · exact setInputErr_inv hi
  · exact forgetLevel_inv (closeWindow_controlled hi.controlled) (by simp)
  · exact hi

theorem guarded_inv {s : State} (hi : s.Inv) {T : Sample} {k : State → State}
    (hk : ∀ {u : State}, u.Inv → u.status.started = true → (k u).Inv) : (unlessFatal (withStartCheck T k) s).Inv := by
  rcases guarded_cases T k s with ⟨-, h⟩ | ⟨-, hs, -, h⟩ | ⟨hf, hs, hvalid, h⟩ | ⟨-, hs, h⟩ <;> rw [h]
  · exact hi
  · exact enterFatal_inv hi hs T
  · exact hk (setStarted_inv hi hf hs hvalid) rfl
  · exact hk hi hs

theorem unlessFatal_inv {s : State} (hi : s.Inv) {k : State → State} (hk : (k s).Inv) : (unlessFatal k s).Inv := by
  unfold unlessFatal
  split
  · exact hi
  · exact hk

/-- A configuration is written only before the start, when no clause reads it (10_state.md R20). -/
theorem cfgw_inv {s : State} (hi : s.Inv) (a v : Reg) :
    State.Inv (if s.status.started then s else { s with cfg := writeCfg (cfgRegAt a) v s.cfg }) := by
  split
  · exact hi
  · next hs =>
    obtain ⟨hbuild, ⟨hphase, hpar, -, hfatal⟩, hrest⟩ := hi
    exact ⟨hbuild, ⟨hphase, hpar, fun h => absurd h hs, hfatal⟩, hrest⟩

theorem eos_inv {s : State} (hi : s.Inv) : (forgetLevel (clearWindow s)).Inv := by
  obtain ⟨hbuild, ⟨hphase, -, hvalid, hfatal⟩, hbase⟩ := hi.controlled
  exact forgetLevel_inv ⟨hbuild, ⟨hphase, rfl, hvalid, hfatal⟩, hbase⟩ rfl

theorem exec_inv {i : Instr} {s t : State} (hi : s.Inv) (h : exec i s = .next t) : t.Inv := by
  rcases exec_next_cases h with ⟨T, l, -, rfl⟩ | ⟨T, -, rfl⟩ | ⟨-, rfl⟩ | ⟨-, rfl⟩ | ⟨a, v, -, rfl⟩ | ⟨a, -, rfl⟩
    | ⟨-, -, r, c, rfl⟩
  · exact guarded_inv hi fun hu hs => edgeStarted_inv hu hs T l
  · exact guarded_inv hi fun hu _ => tickStarted_inv hu T
  · exact unlessFatal_inv hi (eos_inv hi)
  · exact unlessFatal_inv hi (setBadev_inv hi)
  · exact cfgw_inv hi a v
  · exact hi
  · exact hi

/-- Settles O9: a step waits, takes the reset input, or runs an instruction, and no clause reads what is presented. -/
theorem invariantKeptByEveryStep : Obligations.InvariantKeptByEveryStep := by
  intro s t hi h
  rcases step_next h with ⟨-, rfl⟩ | ⟨rest, -, rfl⟩ | ⟨w, rest, i, -, -, hexec⟩
  · exact hi
  · exact doReset_inv hi.controlled.build
  · exact exec_inv (s := { s with pending := rest }) hi hexec

end Sys2Proof.Machine
end

section
/-! PROOFS. Decoder and encoder undo each other (30_encoding.md R46 to R48, 42_symbol_mapper.md R81, 43_frame_sync.md
R84), what a step runs, and the rows of the two tables run as instructions. -/

namespace Sys2Proof.Machine

/-! ### An event word and its three fields -/

/-- The bits of an event word, from the sample index up (30_encoding.md R46). -/
theorem eventWord_getLsbD (k : BitVec 2) (l : Bool) (t : Sample) (j : Nat) : (eventWord k l t).getLsbD j =
    if j < 64 then t.getLsbD j else if j < 65 then l else k.getLsbD (j - 65) := by
  have happend : (eventWord k l t).getLsbD j = (k ++ BitVec.ofBool l ++ t : BitVec (2 + 1 + 64)).getLsbD j := rfl
  rw [happend, BitVec.getLsbD_append, BitVec.getLsbD_append]
  split
  · rfl
  · next hj =>
    rcases Nat.eq_or_lt_of_le (Nat.le_of_not_lt hj) with rfl | hlt
    · simp
    · rw [if_neg (by omega), if_neg (by omega)]
      rfl

theorem eventKind_eventWord (k : BitVec 2) (l : Bool) (t : Sample) : eventKind (eventWord k l t) = k := by
  ext j hj
  rw [eventKind, BitVec.getElem_extractLsb', eventWord_getLsbD, if_neg (by omega), if_neg (by omega),
    Nat.add_sub_cancel_left, BitVec.getLsbD_eq_getElem]

theorem eventLevel_eventWord (k : BitVec 2) (l : Bool) (t : Sample) : eventLevel (eventWord k l t) = l :=
  eventWord_getLsbD k l t 64

theorem eventTime_eventWord (k : BitVec 2) (l : Bool) (t : Sample) : eventTime (eventWord k l t) = t := by
  ext j hj
  rw [eventTime, BitVec.getElem_extractLsb', Nat.zero_add, eventWord_getLsbD, if_pos hj, BitVec.getLsbD_eq_getElem]

/-- An event word is its kind, level and sample index side by side. -/
theorem eventWord_fields (w : BitVec 67) : eventWord (eventKind w) (eventLevel w) (eventTime w) = w := by
  refine BitVec.eq_of_getLsbD_eq fun j hj => ?_
  rw [eventWord_getLsbD]
  split
  · next hj' => simp [eventTime, hj']
  · split
    · rw [eventLevel, show j = 64 by omega]
    · simp [eventKind, show j - 65 < 2 by omega, show 65 + (j - 65) = j by omega]

/-! ### Decode of encode -/

/-- Settles O3: an event word by its fields, an access by its `op`, a table word by its row. -/
theorem decodeOfEncodeIsIdentity : Obligations.DecodeOfEncodeIsIdentity := by
  intro i _
  cases i with
  | edge t l =>
    refine congrArg Except.ok ((decodeEvent_edge (eventKind_eventWord _ _ _)).trans ?_)
    rw [eventTime_eventWord, eventLevel_eventWord]
  | tick t =>
    refine congrArg Except.ok ((decodeEvent_tick (eventKind_eventWord _ _ _)).trans ?_)
    rw [eventTime_eventWord]
  | eos => exact congrArg Except.ok (decodeEvent_eos (eventKind_eventWord _ _ _))
  | rsvd => exact congrArg Except.ok (decodeEvent_rsvd (eventKind_eventWord _ _ _))
  | _ => rfl

/-! ### Encode of decode -/

theorem encode_decodeEvent (w : BitVec 67) : encode (decodeEvent w) = ignoredFieldsCleared (.event w) := by
  have hkinds : ∀ k : BitVec 2, k = 0b00#2 ∨ k = 0b01#2 ∨ k = 0b10#2 ∨ k = 0b11#2 := by decide
  rcases hkinds (eventKind w) with h | h | h | h
  · rw [decodeEvent_edge h, encode, ← h, eventWord_fields, ignoredFieldsCleared, if_pos h]
  · rw [decodeEvent_tick h]
    simp [encode, ignoredFieldsCleared, h]
  · rw [decodeEvent_eos h]
    simp [encode, ignoredFieldsCleared, h]
  · rw [decodeEvent_rsvd h]
    simp [encode, ignoredFieldsCleared, h]

theorem encode_decodeAccess (op : BitVec 1) (addr wdata : Reg) :
    encode (decodeAccess op addr wdata) = ignoredFieldsCleared (.access op addr wdata) := by
  have hops : ∀ op : BitVec 1, op = 0#1 ∨ op = 1#1 := by decide
  rcases hops op with rfl | rfl <;> rfl

/-- A table answers with the instruction of a row of exactly that word. -/
theorem mem_of_rowOf {n : Nat} {rows : List (BitVec n × Instr)} {w : BitVec n} {i : Instr}
    (h : rowOf rows w = some i) : (w, i) ∈ rows := by
  obtain ⟨r, hfind, rfl⟩ := Option.map_eq_some_iff.1 h
  obtain rfl : r.1 = w := eq_of_beq (List.find?_some hfind :)
  exact List.mem_of_find?_eq_some hfind

theorem encode_codeRow : ∀ r ∈ codeRows, encode r.2 = .codeGroup r.1 := by decide

theorem encode_sopRow : ∀ r ∈ sopRows, encode r.2 = .candidate r.1 := by decide

/-- Settles O4: an event word keeps the fields its kind has, an access those of its `op`, and a table word is that of its
row. -/
theorem encodeOfDecodeClearsIgnoredFields : Obligations.EncodeOfDecodeClearsIgnoredFields := by
  intro w i h
  cases w with
  | event w =>
    cases h
    exact encode_decodeEvent w
  | access op addr wdata =>
    cases h
    exact encode_decodeAccess op addr wdata
  | codeGroup c =>
    cases hrow : rowOf codeRows c with
    | none => simp [decode, hrow] at h
    | some j =>
      simp only [decode, hrow, Except.ok.injEq] at h
      exact encode_codeRow _ (mem_of_rowOf (hrow.trans (congrArg some h)))
  | candidate p =>
    cases hrow : rowOf sopRows p with
    | none => simp [decode, hrow] at h
    | some j =>
      simp only [decode, hrow, Except.ok.injEq] at h
      exact encode_sopRow _ (mem_of_rowOf (hrow.trans (congrArg some h)))

/-! ### The step -/

theorem step_word {s : State} {w : PortWord} {rest : List Input} {i : Instr} (hpending : s.pending = .word w :: rest)
    (hdecode : decode w = .ok i) : step s = exec i { s with pending := rest } := by
  simp only [step, fetch, hpending, hdecode]

theorem step_reset {s : State} {rest : List Input} (hpending : s.pending = .reset :: rest) :
    step s = .next (doReset { s with pending := rest }) := by
  simp only [step, fetch, hpending]

theorem step_idle {s : State} (hpending : s.pending = []) : step s = .next s := by
  simp only [step, fetch, hpending]

theorem decode_of_decodeTableWord {n w : Nat} {i : Instr} (h : decodeTableWord n w = some i) :
    decode (portWordOfTable n w) = .ok i := by
  unfold decodeTableWord at h
  split at h
  · next hok =>
    cases h
    exact hok
  · cases h

/-- Settles O5: the step by what stands first in the queue; the word of the table stands there alone. -/
theorem stepRunsTheDecodedInstruction : Obligations.StepRunsTheDecodedInstruction :=
  ⟨fun _ _ _ _ hpending _ hdecode => step_word hpending hdecode, fun _ _ => step_reset, fun _ => step_idle,
    fun _ _ _ _ h => step_word rfl (decode_of_decodeTableWord h)⟩

/-! ### The rows of the two tables run as instructions -/

theorem exec_codeRow (s : State) : ∀ r ∈ codeRows, exec r.2 s = runMapper r.1 s := by
  intro r hr
  fin_cases hr <;> rfl

theorem exec_sopRow (s : State) : ∀ r ∈ sopRows, exec r.2 s = runChoose r.1 s := by
  intro r hr
  fin_cases hr <;> rfl

theorem runMapper_default {s : State} (hcode : s.build.codeTable = defaultCodeTable) (raw : Code) :
    runMapper raw s = .next { s with symdecOut := symdecOf defaultBuild raw } := by
  rw [runMapper, symdecOf, codeSym, hcode]
  rfl

/-- Settles O35: each row runs the mapper on its own code, and the default table gives that code its symbol. -/
theorem codeRowsAnswerTheirSymbol : Obligations.CodeRowsAnswerTheirSymbol := by
  intro s hcode e he
  have hrow : (e.2.1, e.1) ∈ codeRows ∧ symdecOf defaultBuild e.2.1 = ⟨e.2.1, e.2.2⟩ := by
    revert e
    decide
  obtain ⟨hmem, hsym⟩ := hrow
  rw [exec_codeRow s _ hmem, runMapper_default hcode, hsym]

/-- A candidate that is a row's own pattern is answered with that row at every threshold (43_frame_sync.md R87). -/
theorem exec_sopRow_default {s : State} (hcode : s.build.codeTable = defaultCodeTable)
    (hsop : s.build.sopTable = defaultSopTable) {p : Candidate} {i : Instr} {row : SopRow} (hi : (p, i) ∈ sopRows)
    (hrow : row ∈ defaultSopTable) (hexact : rowMatches defaultBuild p row = 4) :
    exec i s = .next { s with chooseOut := some ⟨row.kind, sopClass row.kind, 4⟩ } := by
  have hmatches : rowMatches s.build p row = 4 := by
    rw [← hexact]
    simp only [rowMatches, positionMatch, codeSym, hcode]
    rfl
  have hchoose : chooseOf s.build s.cfg.sopMinMatch p = some ⟨row.kind, sopClass row.kind, 4⟩ := by
    rw [chooseOf, choose_of_exact hsop hrow hmatches, Option.map_some, hmatches]
    rfl
  rw [exec_sopRow s _ hi, runChoose, hchoose]

/-- Settles O37: each row's pattern matches that row in all four places. -/
theorem frameStartRowsChooseThemselves : Obligations.FrameStartRowsChooseThemselves := by
  intro s hcode hsop
  have hrun := fun p i row => @exec_sopRow_default s hcode hsop p i row
  exact ⟨hrun 0x8E318 _ defaultSopTable[0] (by decide) (by decide) (by decide),
    hrun 0x31B18 _ defaultSopTable[1] (by decide) (by decide) (by decide),
    hrun 0x360D8 _ defaultSopTable[2] (by decide) (by decide) (by decide),
    hrun 0x36738 _ defaultSopTable[3] (by decide) (by decide) (by decide),
    hrun 0x89B38 _ defaultSopTable[4] (by decide) (by decide) (by decide),
    hrun 0x31F07 _ defaultSopTable[5] (by decide) (by decide) (by decide),
    hrun 0xC9CE7 _ defaultSopTable[6] (by decide) (by decide) (by decide)⟩

end Sys2Proof.Machine
end

section
/-! PROOFS. STATUS, reset and the fatal stop (60_exceptions.md R140, R141, 70_reset_and_hazards.md R149), and what an
instruction that closes no window emits (R158). -/

namespace Sys2Proof.Machine

/-! ### The bits of STATUS -/

/-- Every bit of STATUS set in `u` is set in `v`. -/
structure StatusBits.Le (u v : StatusBits) : Prop where
  started : u.started = true → v.started = true
  fatal : u.fatal = true → v.fatal = true
  inputErr : u.inputErr = true → v.inputErr = true
  badev : u.badev = true → v.badev = true
  overflow : u.overflow = true → v.overflow = true

theorem StatusBits.Le.refl (u : StatusBits) : u.Le u := ⟨id, id, id, id, id⟩

theorem StatusBits.Le.trans {u v w : StatusBits} (h : u.Le v) (k : v.Le w) : u.Le w :=
  ⟨k.started ∘ h.started, k.fatal ∘ h.fatal, k.inputErr ∘ h.inputErr, k.badev ∘ h.badev, k.overflow ∘ h.overflow⟩

theorem StatusBits.Le.of_eq {u v : StatusBits} (h : v = u) : u.Le v := h ▸ .refl u

theorem setStarted_status_le (s : State) : s.status.Le (setStarted s).status := ⟨fun _ => rfl, id, id, id, id⟩

theorem enterFatal_status_le (T : Sample) (s : State) : s.status.Le (enterFatal T s).status :=
  ⟨id, fun _ => rfl, id, id, id⟩

theorem setInputErr_status_le (s : State) : s.status.Le (setInputErr s).status := ⟨id, id, fun _ => rfl, id, id⟩

theorem setBadev_status_le (s : State) : s.status.Le (setBadev s).status := ⟨id, id, id, fun _ => rfl, id⟩

theorem RecoveryFrame.status_le {s u : State} (h : RecoveryFrame s u) : s.status.Le u.status := by
  rcases h.overflowOnly with ⟨-, hstatus⟩ | ⟨-, -, -, hstatus⟩
  · exact .of_eq hstatus
  · rw [hstatus]
    exact ⟨id, id, id, id, fun _ => rfl⟩

theorem edgeStarted_status_le (T : Sample) (l : Bool) (s : State) : s.status.Le (edgeStarted T l s).status := by
  rcases edgeStarted_cases T l s with ⟨-, h⟩ | ⟨-, -, h⟩ | ⟨-, -, -, h⟩ | ⟨-, -, -, -, h⟩
    | ⟨-, -, -, -, h⟩ <;> rw [h]
  · exact .refl _
  · exact .refl _
  · exact setInputErr_status_le s
  · exact .of_eq (closeWindow_status s)
  · exact (gapOp_recovery T s).status_le

theorem tickStarted_status_le (T : Sample) (s : State) : s.status.Le (tickStarted T s).status := by
  rcases tickStarted_cases T s with ⟨-, h⟩ | ⟨-, -, h⟩ | ⟨-, -, h⟩ | ⟨-, -, -, h⟩ <;> rw [h]
  · exact .refl _
  · exact setInputErr_status_le s
  · exact .of_eq (closeWindow_status s)
  · exact .refl _

theorem guarded_status_le {k : State → State} (hk : ∀ s : State, s.status.Le (k s).status) (T : Sample) (s : State) :
    s.status.Le (unlessFatal (withStartCheck T k) s).status := by
  rcases guarded_cases T k s with ⟨-, h⟩ | ⟨-, -, -, h⟩ | ⟨-, -, -, h⟩ | ⟨-, -, h⟩ <;> rw [h]
  · exact .refl _
  · exact enterFatal_status_le T s
  · exact (setStarted_status_le s).trans (hk _)
  · exact hk s

theorem exec_status_le {i : Instr} {s t : State} (h : exec i s = .next t) : s.status.Le t.status := by
  rcases exec_next_cases h with ⟨T, l, -, rfl⟩ | ⟨T, -, rfl⟩ | ⟨-, rfl⟩ | ⟨-, rfl⟩ | ⟨a, v, -, rfl⟩ | ⟨a, -, rfl⟩
    | ⟨-, -, r, c, rfl⟩
  · exact guarded_status_le (edgeStarted_status_le T l) T s
  · exact guarded_status_le (tickStarted_status_le T) T s
  · unfold unlessFatal
    split <;> exact .refl _
  · unfold unlessFatal
    split
    · exact .refl _
    · exact setBadev_status_le s
  · split <;> exact .refl _
  · exact .refl _
  · exact .refl _

/-- Settles O13: no instruction clears a bit of STATUS, and reset writes STATUS and the configuration whole. -/
theorem onlyResetClearsStatusBits : Obligations.OnlyResetClearsStatusBits := by
  refine ⟨fun i s t h => ?_, fun _ => ⟨rfl, rfl⟩⟩
  obtain ⟨hstarted, hfatal, hinputErr, hbadev, hoverflow⟩ := exec_status_le h
  exact ⟨hstarted, hfatal, hinputErr, hbadev, hoverflow⟩

/-- Settles O6: reset writes every register its value, whatever the state was, and keeps the output. -/
theorem resetSetsEveryPieceOfState : Obligations.ResetSetsEveryPieceOfState := fun s =>
  ⟨rfl, rfl, rfl, rfl, rfl, rfl, rfl, rfl, statusWord_eq_zero (s := doReset s) rfl rfl rfl, rfl, rfl, rfl, rfl, rfl, rfl,
    rfl⟩

/-! ### The fatal stop -/

/-- In the fatal stop an instruction writes the configuration or a returned value, and nothing else. -/
theorem exec_stopped_frame {i : Instr} {s t : State} (hfatal : s.status.fatal = true) (h : exec i s = .next t) :
    t.status = s.status ∧ t.out = s.out ∧ t.win = s.win := by
  rcases exec_next_cases h with ⟨T, l, -, rfl⟩ | ⟨T, -, rfl⟩ | ⟨-, rfl⟩ | ⟨-, rfl⟩ | ⟨a, v, -, rfl⟩ | ⟨a, -, rfl⟩
    | ⟨-, -, r, c, rfl⟩
  · rw [unlessFatal_stopped hfatal]
    exact ⟨rfl, rfl, rfl⟩
  · rw [unlessFatal_stopped hfatal]
    exact ⟨rfl, rfl, rfl⟩
  · rw [unlessFatal_stopped hfatal]
    exact ⟨rfl, rfl, rfl⟩
  · rw [unlessFatal_stopped hfatal]
    exact ⟨rfl, rfl, rfl⟩
  · split <;> exact ⟨rfl, rfl, rfl⟩
  · exact ⟨rfl, rfl, rfl⟩
  · exact ⟨rfl, rfl, rfl⟩

/-- Settles O19: the failed start check enters the stop; in it the events are dropped, and the configuration is still
open, since a stopped block has not started. -/
theorem fatalStopIsEnteredAndHolds : Obligations.FatalStopIsEnteredAndHolds := by
  refine ⟨fun _ _ _ h => exec_entersFatal h, fun s hfatal => ?_, fun _ _ _ => exec_stopped_frame,
    fun s v hi hfatal => ?_⟩
  · have hdrop : ∀ i : Instr, i.isEvent → exec i s = .next s := fun _ hi => exec_event_stopped hi hfatal
    exact ⟨fun _ _ => hdrop _ trivial, fun _ => hdrop _ trivial, hdrop _ trivial, hdrop _ trivial⟩
  · obtain ⟨-, -, -, hunstarted⟩ := hi.controlled.control
    exact ⟨writesByAddress (hunstarted hfatal) v, readsByAddress s⟩

/-! ### Between two closes -/

/-- A started edge that closes no window emits nothing. -/
theorem edgeStarted_out_of_not_closes {s : State} {T : Sample} {l : Bool}
    (hfatal : s.status.fatal = false) (hstarted : s.status.started = true)
    (h : ¬ ClosesWindow (.edge T l) s) : (edgeStarted T l s).out = s.out := by
  rcases edgeStarted_cases T l s with ⟨-, he⟩ | ⟨-, -, he⟩ | ⟨-, -, -, he⟩ | ⟨hl, ho, hT, hidle, -⟩
    | ⟨-, -, -, -, he⟩
  · rw [he]
  · rw [he, openWindow_out]
  · rw [he, setInputErr_out]
  · exact absurd ⟨⟨hfatal, hstarted, ho⟩, hl, BitVec.le_of_lt hT, hidle⟩ h
  · rw [he]
    exact (gapOp_recovery T s).out

theorem tickStarted_out_of_not_closes {s : State} {T : Sample}
    (hfatal : s.status.fatal = false) (hstarted : s.status.started = true)
    (h : ¬ ClosesWindow (.tick T) s) : (tickStarted T s).out = s.out := by
  rcases tickStarted_cases T s with ⟨-, ht⟩ | ⟨-, -, ht⟩ | ⟨ho, hidle, -⟩ | ⟨-, -, -, ht⟩
  · rw [ht]
  · rw [ht, setInputErr_out]
  · exact absurd ⟨⟨hfatal, hstarted, ho⟩, hidle⟩ h
  · rw [ht]

/-- The guards of an EDGE or TICK add FATAL or nothing to what the event emits. -/
theorem guarded_out_cases {s : State} {i : Instr} {T : Sample} {k : State → State} (hcheck : i.checkTime = some T)
    (hk : s.status.fatal = false → s.status.started = true → (k s).out = s.out)
    (hk' : s.status.started = false → (k (setStarted s)).out = s.out) :
    (unlessFatal (withStartCheck T k) s).out = s.out
      ∨ ∃ T', EntersFatal i T' s ∧ (unlessFatal (withStartCheck T k) s).out = s.out ++ [⟨T', T', .fatal 1⟩] := by
  rcases guarded_cases T k s with ⟨-, h⟩ | ⟨hf, hs, hinvalid, h⟩ | ⟨-, hs, -, h⟩ | ⟨hf, hs, h⟩
  · exact .inl (by rw [h])
  · exact .inr ⟨T, ⟨hcheck, hf, hs, hinvalid⟩, by rw [h]; rfl⟩
  · exact .inl (by rw [h, hk' hs])
  · exact .inl (by rw [h, hk hf hs])

/-- Settles O45: a started EDGE or TICK that does not close emits nothing, the first one finds no window open, and no
other instruction emits. -/
theorem noRecordBetweenCloses : Obligations.NoRecordBetweenCloses := by
  intro s t i hi hexec hcloses
  have hclosed : s.status.started = false → (setStarted s).win.isOpen = false := hi.closed_of_unstarted
  rcases exec_next_cases hexec with ⟨T, l, rfl, rfl⟩ | ⟨T, rfl, rfl⟩ | ⟨rfl, rfl⟩ | ⟨-, rfl⟩ | ⟨a, v, -, rfl⟩ | ⟨a, -, rfl⟩
    | ⟨-, -, r, c, rfl⟩
  · refine guarded_out_cases (i := .edge T l) rfl (fun hf hs => edgeStarted_out_of_not_closes hf hs hcloses) fun hs => ?_
    have hout := edgeStarted_out_cases T l (setStarted s)
    rw [hclosed hs] at hout
    exact hout.resolve_right nofun
  · refine guarded_out_cases (i := .tick T) rfl (fun hf hs => tickStarted_out_of_not_closes hf hs hcloses) fun hs => ?_
    rw [tickStarted_closed (hclosed hs)]
    rfl
  · exact .inl (exec_eos_out hexec)
  · refine .inl ?_
    unfold unlessFatal
    split <;> rfl
  · refine .inl ?_
    split <;> rfl
  · exact .inl rfl
  · exact .inl rfl

end Sys2Proof.Machine
end

section
/-! PROOFS. The state of a window at its end, by EOS or by a close (10_state.md R33, 40_input_events.md R64), and the
bytes of RAWBITS (46_window_output.md R121). -/

namespace Sys2Proof.Machine

/-! ### The end of a window -/

/-- Settles O21: the parser registers are clear already, and with no window open so is all that EOS clears. -/
theorem eosDropsTheWindow : Obligations.EosDropsTheWindow := by
  intro s hi
  obtain ⟨-, ⟨-, hpar, -⟩, hnone, -⟩ := id hi
  have hrun : s.status.fatal = false → exec .eos s = .next { s with win := { s.win with
      isOpen := false, halfPending := false, bits := [], demodErrs := [], level := none } } := fun hfatal => by
    rw [exec_eos_running hfatal, clearWindow, ← hpar]
    rfl
  refine ⟨exec_event_stopped trivial, hrun, fun hclosed => ?_⟩
  obtain ⟨hlevel, hhalf, hbits, herrs⟩ := hnone hclosed
  cases hfatal : s.status.fatal with
  | true => exact exec_event_stopped trivial hfatal
  | false =>
    have hwin : { s.win with
        isOpen := false, halfPending := false, bits := [], demodErrs := [], level := none } = s.win :=
      calc _ = (⟨s.win.isOpen, s.win.firstT, s.win.prevT, s.win.level, s.win.halfPending, s.win.halfStart, s.win.bits,
              s.win.demodErrs⟩ : WindowState) := by rw [hclosed, hlevel, hhalf, hbits, herrs]
        _ = s.win := rfl
    rw [hrun hfatal, hwin]

/-- Settles O40: an EDGE closes and opens the next window, a TICK closes and forgets the level. -/
theorem closeKeepsWhatOutlivesTheWindow : Obligations.CloseKeepsWhatOutlivesTheWindow := by
  intro s i h
  cases i with
  | edge T l =>
    refine ⟨_, exec_edge_closes h, ?_⟩
    simp [FrameFlags.cleared]
  | tick T =>
    obtain ⟨hdec, hidle⟩ := h
    refine ⟨_, exec_tick_closes hdec hidle, ?_⟩
    simp
  | _ => exact h.2.elim

/-! ### The bytes of RAWBITS -/

theorem length_rawBytes (m : Memory) : (rawBytes m).length = (m.length + 7) / 8 := by simp [rawBytes]

/-- Settles O48: bit j of byte k is bit `8k + j` of the buffer, and 0 past its end. -/
theorem rawBytesPackTheBits : Obligations.RawBytesPackTheBits := by
  refine fun m => ⟨length_rawBytes m, fun k hk => ?_⟩
  have hbyte : (rawBytes m)[k / 8] = memRead m (8 * (k / 8)) 8 := by simp [rawBytes]
  rw [hbyte, memRead_getLsbD _ _ _ _ (Nat.mod_lt _ (by decide)), Nat.div_add_mod, List.getD_eq_getElem?_getD,
    List.getElem?_map]

end Sys2Proof.Machine
end
